-- ==== Sys2Proof/Word.lean ====
section
/-! DEFINITION. The value types of the DHT-protocol decoder: bytes, host words, timestamps, line levels, the 31
micro-states, the eight capability operations, and the three formats an encoded word comes in. -/

namespace Sys2Proof

/-- One frame byte: "five unsigned 8-bit fields" (10 R25). -/
abbrev Byte := BitVec 8

/-- A host register, a host write's data, or the argument of a capability operation: 32 bits (10 R40, 30 R90). -/
abbrev Word := BitVec 32

/-- A quantity of the Reading, in tenths: 12 bits (10 R26, R27). -/
abbrev Tenths := BitVec 12


/-- The level of the line (10 R50, 40 R122). -/
inductive Level where
  | low
  | high
  deriving DecidableEq, Repr, Inhabited

/-- The micro-states of 30 R95, in the order of their codes 0 to 30. "A model should make the micro-state a type with
exactly 31 values" (30 R104). -/
inductive MicroState where
  | idle
  | hOut | hHi0 | hLo | hHold | hHi1 | hRel | hIn
  | hW1T | hW1Q | hW1C
  | hW2T | hW2Q | hW2C
  | hW3T | hW3Q | hW3C
  | sWhT | sWhQ | sWhC
  | sRec
  | sWlT | sWlQ | sWlC
  | sCls
  | vPack | vChk | cConv
  | done | errTimeout | errChecksum
  deriving DecidableEq, Repr, Inhabited

/-- The eight capability operations (30 R90). -/
inductive CapOp where
  | setModeOutput | setModeInput | driveHigh | driveLow
  | queryHigh | queryLow
  | wait | now
  deriving DecidableEq, Repr, Inhabited

/-- An encoded word in its format: CAP 36 bits, USEQ 5 bits, HOST 32 bits (30 R106). -/
inductive CodeWord where
  /-- A capability word `cap_op` (bits 35:32), `cap_arg` (bits 31:0). -/
  | cap (w : BitVec 36)
  /-- A micro-state code. -/
  | useq (w : BitVec 5)
  /-- The data of a host write to `HR0`. -/
  | host (w : Word)
  deriving DecidableEq, Repr

end Sys2Proof
end

