-- ==== Sys2Proof/Syntax.lean ====
section
/-! DEFINITION. The instructions: one constructor per row of the opcode table (8 capability operations, 31
micro-operations, 1 host command; 30 R109). -/

namespace Sys2Proof

/-- The operations of the hardware. A capability operation carries its 32-bit argument (30 R90): the duration for
`WAIT`, ignored by the environment for the other seven. A micro-operation carries nothing: everything it does follows
from its code (30 R96). `START` carries the 31 data bits above bit 0, which the hardware ignores (30 R98). -/
inductive Instr where
  | setModeOutput (arg : Word)
  | setModeInput (arg : Word)
  | driveHigh (arg : Word)
  | driveLow (arg : Word)
  | queryHigh (arg : Word)
  | queryLow (arg : Word)
  | wait (arg : Word)
  | now (arg : Word)
  | idle
  | hOut
  | hHi0
  | hLo
  | hHold
  | hHi1
  | hRel
  | hIn
  | hW1T
  | hW1Q
  | hW1C
  | hW2T
  | hW2Q
  | hW2C
  | hW3T
  | hW3Q
  | hW3C
  | sWhT
  | sWhQ
  | sWhC
  | sRec
  | sWlT
  | sWlQ
  | sWlC
  | sCls
  | vPack
  | vChk
  | cConv
  | done
  | errTimeout
  | errChecksum
  | start (ignored : BitVec 31)
  deriving DecidableEq, Repr

end Sys2Proof
end

