-- ==== Sys2Proof/Decode.lean ====
section
/-! DEFINITION. The codes of 30 R90, R95 and R98, the decoder of the three formats, and after it the encoder, with every
constructor's decoding shown on a word written out from the spec's tables. -/

namespace Sys2Proof

/-- Why a word decodes to no instruction. -/
inductive DecodeError where
  /-- A reserved capability code: `0x0`, `0x7`, `0xA` to `0xF` (30 R102). -/
  | reservedCapability (op : BitVec 4)
  /-- The micro-state code 31, which names nothing (30 R104). -/
  | reservedMicroState (code : BitVec 5)
  /-- A write to `HR0` with bit 0 clear "is no command" (30 R98). -/
  | notACommand (data : Word)
  deriving DecidableEq, Repr

/-- The code of a micro-state (30 R95). -/
def MicroState.code : MicroState → BitVec 5
  | .idle => 0
  | .hOut => 1
  | .hHi0 => 2
  | .hLo => 3
  | .hHold => 4
  | .hHi1 => 5
  | .hRel => 6
  | .hIn => 7
  | .hW1T => 8
  | .hW1Q => 9
  | .hW1C => 10
  | .hW2T => 11
  | .hW2Q => 12
  | .hW2C => 13
  | .hW3T => 14
  | .hW3Q => 15
  | .hW3C => 16
  | .sWhT => 17
  | .sWhQ => 18
  | .sWhC => 19
  | .sRec => 20
  | .sWlT => 21
  | .sWlQ => 22
  | .sWlC => 23
  | .sCls => 24
  | .vPack => 25
  | .vChk => 26
  | .cConv => 27
  | .done => 28
  | .errTimeout => 29
  | .errChecksum => 30

/-- The micro-state of a code, the inverse table of 30 R95; none for 31 (30 R104). -/
def MicroState.ofCode (w : BitVec 5) : Option MicroState :=
  match w.toNat with
  | 0 => some .idle
  | 1 => some .hOut
  | 2 => some .hHi0
  | 3 => some .hLo
  | 4 => some .hHold
  | 5 => some .hHi1
  | 6 => some .hRel
  | 7 => some .hIn
  | 8 => some .hW1T
  | 9 => some .hW1Q
  | 10 => some .hW1C
  | 11 => some .hW2T
  | 12 => some .hW2Q
  | 13 => some .hW2C
  | 14 => some .hW3T
  | 15 => some .hW3Q
  | 16 => some .hW3C
  | 17 => some .sWhT
  | 18 => some .sWhQ
  | 19 => some .sWhC
  | 20 => some .sRec
  | 21 => some .sWlT
  | 22 => some .sWlQ
  | 23 => some .sWlC
  | 24 => some .sCls
  | 25 => some .vPack
  | 26 => some .vChk
  | 27 => some .cConv
  | 28 => some .done
  | 29 => some .errTimeout
  | 30 => some .errChecksum
  | _ => none

/-- The code of a capability operation (30 R90). -/
def CapOp.code : CapOp → BitVec 4
  | .setModeOutput => 0x1
  | .setModeInput => 0x2
  | .driveHigh => 0x3
  | .driveLow => 0x4
  | .queryHigh => 0x5
  | .queryLow => 0x6
  | .wait => 0x8
  | .now => 0x9

/-- A capability word: the operation in bits 35:32 and the argument in bits 31:0 (30 R90). -/
def decodeCap (w : BitVec 36) : Except DecodeError Instr :=
  let op : BitVec 4 := w.extractLsb' 32 4
  let arg : Word := w.extractLsb' 0 32
  match op.toNat with
  | 0x1 => .ok (.setModeOutput arg)
  | 0x2 => .ok (.setModeInput arg)
  | 0x3 => .ok (.driveHigh arg)
  | 0x4 => .ok (.driveLow arg)
  | 0x5 => .ok (.queryHigh arg)
  | 0x6 => .ok (.queryLow arg)
  | 0x8 => .ok (.wait arg)
  | 0x9 => .ok (.now arg)
  | _ => .error (.reservedCapability op)

/-- The micro-operation of a micro-state (30 R96). -/
def MicroState.instr : MicroState → Instr
  | .idle => .idle
  | .hOut => .hOut
  | .hHi0 => .hHi0
  | .hLo => .hLo
  | .hHold => .hHold
  | .hHi1 => .hHi1
  | .hRel => .hRel
  | .hIn => .hIn
  | .hW1T => .hW1T
  | .hW1Q => .hW1Q
  | .hW1C => .hW1C
  | .hW2T => .hW2T
  | .hW2Q => .hW2Q
  | .hW2C => .hW2C
  | .hW3T => .hW3T
  | .hW3Q => .hW3Q
  | .hW3C => .hW3C
  | .sWhT => .sWhT
  | .sWhQ => .sWhQ
  | .sWhC => .sWhC
  | .sRec => .sRec
  | .sWlT => .sWlT
  | .sWlQ => .sWlQ
  | .sWlC => .sWlC
  | .sCls => .sCls
  | .vPack => .vPack
  | .vChk => .vChk
  | .cConv => .cConv
  | .done => .done
  | .errTimeout => .errTimeout
  | .errChecksum => .errChecksum

/-- A micro-state code selects its micro-operation (30 R96). -/
def decodeUseq (w : BitVec 5) : Except DecodeError Instr :=
  match MicroState.ofCode w with
  | some m => .ok m.instr
  | none => .error (.reservedMicroState w)

/-- The data of a write to `HR0`: bit 0 is the command, bits 31:1 are ignored (30 R98). -/
def decodeHost (w : Word) : Except DecodeError Instr :=
  if w[0] then .ok (.start (w.extractLsb' 1 31)) else .error (.notACommand w)

/-- The decoder: total on the words of every format, and rejecting by name. -/
def decode : CodeWord → Except DecodeError Instr
  | .cap w => decodeCap w
  | .useq w => decodeUseq w
  | .host w => decodeHost w

/-- A row's bits as the opcode table numbers them, laid out in the row's format: USEQ rows have 5 bits, HOST rows 32 and
CAP rows 36 (30 R109), given in whole bytes or exactly. The hardware stores no instruction and has no byte order
(20 R63, R75): each format is one word. Bits set above the format's width belong to no word. -/
def tableCodeWord (nbits w : Nat) : Option CodeWord :=
  if nbits ≤ 8 then
    if w < 2 ^ 5 then some (.useq (BitVec.ofNat 5 w)) else none
  else if nbits ≤ 32 then
    if w < 2 ^ 32 then some (.host (BitVec.ofNat 32 w)) else none
  else if nbits ≤ 40 then
    if w < 2 ^ 36 then some (.cap (BitVec.ofNat 36 w)) else none
  else none

/-- The instruction the decoder reads from an opcode-table word. -/
def decodeTableWord (nbits w : Nat) : Option Instr :=
  match tableCodeWord nbits w with
  | some cw =>
    match decode cw with
    | .ok i => some i
    | .error _ => none
  | none => none

/-! ## The encoder -/

/-- The capability word of an operation and its argument (30 R90). -/
def CapOp.word (op : CapOp) (arg : Word) : BitVec 36 := op.code ++ arg

/-- The word of an instruction, from the tables of 30 R90, R95 and R98. -/
def encode : Instr → CodeWord
  | .setModeOutput arg => .cap (CapOp.word .setModeOutput arg)
  | .setModeInput arg => .cap (CapOp.word .setModeInput arg)
  | .driveHigh arg => .cap (CapOp.word .driveHigh arg)
  | .driveLow arg => .cap (CapOp.word .driveLow arg)
  | .queryHigh arg => .cap (CapOp.word .queryHigh arg)
  | .queryLow arg => .cap (CapOp.word .queryLow arg)
  | .wait arg => .cap (CapOp.word .wait arg)
  | .now arg => .cap (CapOp.word .now arg)
  | .idle => .useq (MicroState.code .idle)
  | .hOut => .useq (MicroState.code .hOut)
  | .hHi0 => .useq (MicroState.code .hHi0)
  | .hLo => .useq (MicroState.code .hLo)
  | .hHold => .useq (MicroState.code .hHold)
  | .hHi1 => .useq (MicroState.code .hHi1)
  | .hRel => .useq (MicroState.code .hRel)
  | .hIn => .useq (MicroState.code .hIn)
  | .hW1T => .useq (MicroState.code .hW1T)
  | .hW1Q => .useq (MicroState.code .hW1Q)
  | .hW1C => .useq (MicroState.code .hW1C)
  | .hW2T => .useq (MicroState.code .hW2T)
  | .hW2Q => .useq (MicroState.code .hW2Q)
  | .hW2C => .useq (MicroState.code .hW2C)
  | .hW3T => .useq (MicroState.code .hW3T)
  | .hW3Q => .useq (MicroState.code .hW3Q)
  | .hW3C => .useq (MicroState.code .hW3C)
  | .sWhT => .useq (MicroState.code .sWhT)
  | .sWhQ => .useq (MicroState.code .sWhQ)
  | .sWhC => .useq (MicroState.code .sWhC)
  | .sRec => .useq (MicroState.code .sRec)
  | .sWlT => .useq (MicroState.code .sWlT)
  | .sWlQ => .useq (MicroState.code .sWlQ)
  | .sWlC => .useq (MicroState.code .sWlC)
  | .sCls => .useq (MicroState.code .sCls)
  | .vPack => .useq (MicroState.code .vPack)
  | .vChk => .useq (MicroState.code .vChk)
  | .cConv => .useq (MicroState.code .cConv)
  | .done => .useq (MicroState.code .done)
  | .errTimeout => .useq (MicroState.code .errTimeout)
  | .errChecksum => .useq (MicroState.code .errChecksum)
  | .start ignored => .host (ignored ++ 1#1)

/-! ## Every constructor's decoding, on a word written out from the spec

Capability words from the list of 95 section 0 (and 30 R90), micro-state codes from the table of 30 R95 in binary, host
data from 95 HO2 and HO5. -/

theorem decode_word_setModeOutput : decode (.cap 0x100000000#36) = .ok (.setModeOutput 0) := by decide
theorem decode_word_setModeInput : decode (.cap 0x200000000#36) = .ok (.setModeInput 0) := by decide
theorem decode_word_driveHigh : decode (.cap 0x300000000#36) = .ok (.driveHigh 0) := by decide
theorem decode_word_driveLow : decode (.cap 0x400000000#36) = .ok (.driveLow 0) := by decide
theorem decode_word_queryHigh : decode (.cap 0x500000000#36) = .ok (.queryHigh 0) := by decide
theorem decode_word_queryLow : decode (.cap 0x600000000#36) = .ok (.queryLow 0) := by decide
theorem decode_word_wait : decode (.cap 0x800004E20#36) = .ok (.wait 20000) := by decide
theorem decode_word_now : decode (.cap 0x900000000#36) = .ok (.now 0) := by decide
theorem decode_word_wait_release : decode (.cap 0x80000000A#36) = .ok (.wait 10) := by decide
theorem decode_word_idle : decode (.useq 0b00000#5) = .ok .idle := by decide
theorem decode_word_hOut : decode (.useq 0b00001#5) = .ok .hOut := by decide
theorem decode_word_hHi0 : decode (.useq 0b00010#5) = .ok .hHi0 := by decide
theorem decode_word_hLo : decode (.useq 0b00011#5) = .ok .hLo := by decide
theorem decode_word_hHold : decode (.useq 0b00100#5) = .ok .hHold := by decide
theorem decode_word_hHi1 : decode (.useq 0b00101#5) = .ok .hHi1 := by decide
theorem decode_word_hRel : decode (.useq 0b00110#5) = .ok .hRel := by decide
theorem decode_word_hIn : decode (.useq 0b00111#5) = .ok .hIn := by decide
theorem decode_word_hW1T : decode (.useq 0b01000#5) = .ok .hW1T := by decide
theorem decode_word_hW1Q : decode (.useq 0b01001#5) = .ok .hW1Q := by decide
theorem decode_word_hW1C : decode (.useq 0b01010#5) = .ok .hW1C := by decide
theorem decode_word_hW2T : decode (.useq 0b01011#5) = .ok .hW2T := by decide
theorem decode_word_hW2Q : decode (.useq 0b01100#5) = .ok .hW2Q := by decide
theorem decode_word_hW2C : decode (.useq 0b01101#5) = .ok .hW2C := by decide
theorem decode_word_hW3T : decode (.useq 0b01110#5) = .ok .hW3T := by decide
theorem decode_word_hW3Q : decode (.useq 0b01111#5) = .ok .hW3Q := by decide
theorem decode_word_hW3C : decode (.useq 0b10000#5) = .ok .hW3C := by decide
theorem decode_word_sWhT : decode (.useq 0b10001#5) = .ok .sWhT := by decide
theorem decode_word_sWhQ : decode (.useq 0b10010#5) = .ok .sWhQ := by decide
theorem decode_word_sWhC : decode (.useq 0b10011#5) = .ok .sWhC := by decide
theorem decode_word_sRec : decode (.useq 0b10100#5) = .ok .sRec := by decide
theorem decode_word_sWlT : decode (.useq 0b10101#5) = .ok .sWlT := by decide
theorem decode_word_sWlQ : decode (.useq 0b10110#5) = .ok .sWlQ := by decide
theorem decode_word_sWlC : decode (.useq 0b10111#5) = .ok .sWlC := by decide
theorem decode_word_sCls : decode (.useq 0b11000#5) = .ok .sCls := by decide
theorem decode_word_vPack : decode (.useq 0b11001#5) = .ok .vPack := by decide
theorem decode_word_vChk : decode (.useq 0b11010#5) = .ok .vChk := by decide
theorem decode_word_cConv : decode (.useq 0b11011#5) = .ok .cConv := by decide
theorem decode_word_done : decode (.useq 0b11100#5) = .ok .done := by decide
theorem decode_word_errTimeout : decode (.useq 0b11101#5) = .ok .errTimeout := by decide
theorem decode_word_errChecksum : decode (.useq 0b11110#5) = .ok .errChecksum := by decide
theorem decode_word_start : decode (.host 0x00000001#32) = .ok (.start 0) := by decide
theorem decode_word_start_ignored : decode (.host 0xFFFFFFFF#32) = .ok (.start 0x7FFFFFFF) := by decide

/-- 95 CO11: the reserved capability codes are refused by name. -/
theorem decode_word_reserved_cap : decode (.cap 0x700000000#36) = .error (.reservedCapability 7) := by decide

/-- 30 R104: code 31 names no micro-state. -/
theorem decode_word_reserved_useq : decode (.useq 0b11111#5) = .error (.reservedMicroState 31) := by decide

/-- 95 HO4: bit 0 clear is no command, whatever the other bits. -/
theorem decode_word_no_command : decode (.host 0xFFFFFFFE#32) = .error (.notACommand 0xFFFFFFFE) := by decide

end Sys2Proof
end

