-- ==== Sys2Proof/Config.lean ====
section
/-! DEFINITION. What an implementation fixes (the protocol parameters, with the spec's defaults) and the one free value
(what the environment does when no script says). -/

namespace Sys2Proof

/-- The parameter `ELAPSED_VIOLATION` of 43 R165: what `S_CLS` does with an elapsed time at or above the timeout. -/
inductive ElapsedViolation where
  | classify
  | fault
  deriving DecidableEq, Repr, Inhabited

/-- Which environment answers the core (40 R126). -/
inductive EnvironmentKind where
  /-- The most general one: each query has any truth value and each `NOW` any timestamp that keeps 40 R120. -/
  | general
  /-- The reference environment of 10 R50 and 40 R112 to R119: a query answers the level of the line, and `WAIT` moves
  the clock by at least its argument. -/
  | reference
  deriving DecidableEq, Repr, Inhabited

/-- The named parameters of 00 R5 and 43 R165, and the kind of environment. They are held in the state, where no step
writes them, so that a claim about every state is a claim about every value of the parameters (log 12, DESIGN CHOICE,
safe). -/
structure Params where
  /-- `T_TIMEOUT_US`. -/
  tTimeoutUs : Nat
  /-- `T_THRESHOLD_US`. -/
  tThresholdUs : Nat
  /-- `T_START_LOW_US`, a 32-bit `WAIT` argument. -/
  tStartLowUs : Word
  /-- `T_RELEASE_US`, a 32-bit `WAIT` argument. -/
  tReleaseUs : Word
  /-- `ELAPSED_VIOLATION`. -/
  elapsedViolation : ElapsedViolation
  /-- Which environment answers (40 R126, log 26). -/
  environment : EnvironmentKind
  deriving DecidableEq, Repr

/-- The defaults of 00 R5 and 43 R165, in the most general environment (40 R126, log 26). -/
def Config.defaults : Params :=
  { tTimeoutUs := 1000000
    tThresholdUs := 50
    tStartLowUs := 20000#32
    tReleaseUs := 10#32
    elapsedViolation := .classify
    environment := .general }

/-- What the environment does around one capability operation, beyond the operation itself: how much time passes until
it completes (for `WAIT` in the reference environment, beyond its argument), and the level of the line: the one the line
has where the pin does not drive it, and the one a query is answered by in the general environment. -/
structure EnvMove where
  delay : Nat
  level : Level
  deriving DecidableEq, Repr, Inhabited

/-- FREE VALUE. The environment's `n`-th move where no script gives it (40 R126: "any truth value", "any timestamp that
keeps rule R120"). It has no body, so nothing can be proved about its value (log 3, safe). -/
opaque Config.freeMove : Nat → EnvMove

end Sys2Proof
end

