-- ==== Sys2Proof/Machine/State.lean ====
section
/-! DEFINITION. The machine's state as plain data: the core's registers (10 R20), the environment's state (10 R50), the
parameters, and the model's own fields; the reasons a step can stop; the state after reset. -/

namespace Sys2Proof.Machine

/-- `PIN_MODE`: the pin's direction, `unknown` until the first `SET_MODE_*` (10 R50). -/
inductive PinMode where
  | input
  | output
  | unknown
  deriving DecidableEq, Repr, Inhabited

/-- `PIN_OUT`: the level the pin drives when in output mode, `unknown` until the first `DRIVE_*` (10 R50). -/
inductive PinOut where
  | low
  | high
  | unknown
  deriving DecidableEq, Repr, Inhabited

/-- `FRAME`, the RawFrame (10 R25): integral humidity, decimal humidity, integral temperature, decimal temperature,
checksum. It is indexed by constants only (20 R61), so its five cells are five fields. -/
structure Frame where
  b0 : Byte
  b1 : Byte
  b2 : Byte
  b3 : Byte
  b4 : Byte
  deriving DecidableEq, Repr

/-- The cleared frame: every byte 0 (10 R55). -/
def Frame.zero : Frame := { b0 := 0#8, b1 := 0#8, b2 := 0#8, b3 := 0#8, b4 := 0#8 }

/-- The response the core uses (30 R90): nothing, `cap_rsp_bit` or `cap_rsp_time`. -/
inductive Response where
  | empty
  | bit (b : Bool)
  | time (t : Nat)
  deriving DecidableEq, Repr

/-- One line of the trace (00 R11, 30 R108): a completed capability operation, the micro-state `UPC` held when it was
issued, its argument, and the response. -/
structure TraceEntry where
  micro : MicroState
  op : CapOp
  arg : Word
  rsp : Response
  deriving DecidableEq, Repr

/-- Whose move it is, and what it is (log 5). The spec lets the host and reset act between any two steps of the core
(10 R45, 46 R204, 70 R252). -/
inductive Turn where
  /-- One micro-operation of the core. -/
  | core
  /-- `rst` is sampled high. `withdrawnCompletes` says whether the environment still completes the operation the core
  was presenting (93 U11, log 8); `write` is a host write in the same cycle, over which reset wins (70 R250). -/
  | reset (withdrawnCompletes : Bool) (write : Option (Nat × Word))
  /-- The host writes a host register. -/
  | hostWrite (reg : Nat) (data : Word)
  /-- The host reads a host register. -/
  | hostRead (reg : Nat)
  /-- A capability word handed to the environment from outside the core, as the vectors CO1 to CO11 of 95 do (log 6). No
  agent of the spec but the core issues one (20 R60). -/
  | busWord (w : BitVec 36)
  deriving DecidableEq, Repr

/-- The state. The first group is the core (10 R20), the second the environment (10 R50), the third the parameters
(00 R5), the fourth the model's own fields. -/
structure State where
  /-- `UPC`, the micro-sequencer register (10 R30). -/
  upc : MicroState
  /-- `T_ENTRY`, the timestamp at entry of the level-wait in progress (10 R21). -/
  tEntry : Nat
  /-- `T_REC`, the recorded timestamp of the current bit (10 R22). -/
  tRec : Nat
  /-- `IDX`, the number of bits classified so far (10 R23). -/
  idx : BitVec 6
  /-- `BITS`, the bit sequence; 1 stands for true (10 R24). -/
  bits : Vector Bool 40
  /-- `FRAME` (10 R25). -/
  frame : Frame
  /-- `HUM`, humidity in tenths of a percent (10 R26). -/
  hum : Tenths
  /-- `TEMP`, temperature in tenths of a degree Celsius (10 R27). -/
  temp : Tenths
  /-- `PIN_MODE` (10 R50). -/
  pinMode : PinMode
  /-- `PIN_OUT` (10 R50). -/
  pinOut : PinOut
  /-- `LINE` at the instant the latest capability operation was served (10 R50, log 17). -/
  line : Level
  /-- `CLOCK`, what `NOW` would return (10 R50). -/
  clock : Nat
  /-- The parameters, written by no step (00 R5, log 12). -/
  params : Params
  /-- The model's own: the environment's coming moves, one per capability operation (log 3). -/
  script : List EnvMove
  /-- The model's own: the move the environment makes for ever once the script is over; where there is none the moves are
  the free value `Config.freeMove` (log 3). -/
  lasting : Option EnvMove
  /-- The model's own: how many moves the environment has made; the index of the free value (log 3). -/
  envTick : Nat
  /-- The model's own: the capability operations completed so far, newest first (00 R11, log 23). -/
  trace : List TraceEntry
  /-- The model's own: the coming turns; where the list is empty the core moves (log 5). -/
  agenda : List Turn
  /-- The model's own: the value the host port answered to the latest host read (log 9). -/
  hostRdata : Word
  deriving DecidableEq, Repr

/-- Why a step has no successor. None of them is one of the hardware's two errors: those are next states (60 R226). -/
inductive Fault where
  /-- Raised by `S_CLS` when `ELAPSED_VIOLATION = fault` and the elapsed time is at or above `T_TIMEOUT_US`: "the step
  has no successor state and the run is marked faulted" (43 R165, 93 U1). Safe. -/
  | elapsedViolation
  /-- Raised by `S_CLS` when the `NOW` response is below `T_REC`: a clock that went backwards, which 93 U2 lets a total
  model treat as a fault (log 13). Safe; no run of the model meets it. -/
  | clockBackwards
  /-- Raised by `S_CLS` when `IDX` is not below 40: there is no such cell of `BITS` (10 R24, 20 R61, log 14). Safe; no
  run of the model meets it. -/
  | bitIndexOutOfRange
  deriving DecidableEq, Repr

/-- Why there is no meaning to run. -/
inductive Refusal where
  /-- Raised by `exec` for an instruction that has no meaning yet. Safe. -/
  | notModelled (mnemonic : String)
  /-- Raised by the step for a bus word with a reserved capability code: "An environment model need give them no
  meaning" (30 R102, log 21). Safe; the core never issues one. -/
  | reservedCapability (op : BitVec 4)
  /-- Raised by the step for the micro-state code 31, which the type of `UPC` excludes (30 R104, 93 U7, log 20). Safe;
  never raised. -/
  | reservedMicroState (code : BitVec 5)
  deriving DecidableEq, Repr

/-- The state after reset (10 R55, 70 R250): `UPC = IDLE` and every datapath register 0; the pin unknown until it is
first set (10 R50). `LINE` and `CLOCK` are "unspecified" and get a value of the model's (log 10); so do the model's own
fields (logs 9, 11). -/
def State.reset : State :=
  { upc := .idle
    tEntry := 0
    tRec := 0
    idx := 0#6
    bits := Vector.replicate 40 false
    frame := Frame.zero
    hum := 0#12
    temp := 0#12
    pinMode := .unknown
    pinOut := .unknown
    line := .low
    clock := 0
    params := Config.defaults
    script := []
    lasting := none
    envTick := 0
    trace := []
    agenda := []
    hostRdata := 0#32 }

end Sys2Proof.Machine
end

