-- ==== Sys2Proof/Machine/Flags.lean ====
section
/-! DEFINITION. The status flags and the document's state names, all pure functions of `UPC` (10 R31, R32), and the
values the host registers show (10 R41 to R45). -/

namespace Sys2Proof.Machine

/-- `BUSY`: 1 when `1 <= UPC <= 27` (10 R32). -/
def State.busy (s : State) : Bool :=
  decide (1 ≤ s.upc.code.toNat) && decide (s.upc.code.toNat ≤ 27)

/-- `DONE`: 1 when `UPC` is `DONE`, `ERR_TIMEOUT` or `ERR_CHECKSUM` (10 R32): the terminal micro-states (00 R12). -/
def State.doneFlag (s : State) : Bool :=
  s.upc == .done || s.upc == .errTimeout || s.upc == .errChecksum

/-- `ERR`: 1 for Timeout, 2 for ChecksumError, 0 otherwise, never 3 (10 R32, 30 R99). -/
def State.errCode (s : State) : BitVec 2 :=
  if s.upc == .errTimeout then 1#2 else if s.upc == .errChecksum then 2#2 else 0#2

/-- `STATUS`: `ERR` in bits 3:2, `DONE` in bit 1, `BUSY` in bit 0, the rest 0 (10 R42). -/
def State.status (s : State) : Word :=
  (0#28 ++ s.errCode) ++ (BitVec.ofBool s.doneFlag ++ BitVec.ofBool s.busy)

/-- What a host read of register `reg` returns: `CTRL` reads 0, `STATUS`, `HUMIDITY`, `TEMPERATURE` right-aligned with
upper bits zero, and 0 above register 3 (10 R41 to R45, 20 R63). -/
def State.hostValue (s : State) (reg : Nat) : Word :=
  match reg with
  | 1 => s.status
  | 2 => s.hum.setWidth 32
  | 3 => s.temp.setWidth 32
  | _ => 0#32

/-- The document's state names (10 R31); the conversion has none and stands under its own. -/
inductive Phase where
  | init
  | handshake
  /-- `Sampling(IDX)`. -/
  | sampling (idx : BitVec 6)
  | validating
  | conversion
  | done
  | timeout
  | checksumError
  deriving DecidableEq, Repr

/-- `PHASE(UPC)` by the ranges of codes of 10 R31. -/
def State.phase (s : State) : Phase :=
  let n := s.upc.code.toNat
  if n = 0 then .init
  else if n ≤ 16 then .handshake
  else if n ≤ 24 then .sampling s.idx
  else if n ≤ 26 then .validating
  else if n = 27 then .conversion
  else if n = 28 then .done
  else if n = 29 then .timeout
  else .checksumError

end Sys2Proof.Machine
end

