-- ==== Sys2Proof/Machine/Operands.lean ====
section
/-! DEFINITION. Operand assembly and the decisions the micro-operations make on their operands: the deadline, the bit
classification, the frame bytes, the checksum, the tenths (30 R82; 41 R133; 43 R164; 44 R176, R178; 45 R191). -/

namespace Sys2Proof.Machine

/-- The deadline comparison of `x_C`, strict and without wrap: "the document says exceeds" (41 R133, 90 C9). -/
def deadlinePassed (now entry timeout : Nat) : Bool := decide (entry + timeout < now)

/-- The classification of an elapsed high pulse: 1 when it is at or above the threshold (43 R164). -/
def classify (elapsed threshold : Nat) : Bool := decide (threshold ≤ elapsed)

/-- `pack8`: eight frame bits to a byte, the first weighing 128 (30 R82). -/
def pack8 (c0 c1 c2 c3 c4 c5 c6 c7 : Bool) : Byte :=
  BitVec.ofNat 8
    (128 * c0.toNat + 64 * c1.toNat + 32 * c2.toNat + 16 * c3.toNat + 8 * c4.toNat + 4 * c5.toNat + 2 * c6.toNat
      + c7.toNat)

/-- Byte `j` of the frame, packed from `BITS[8j]` to `BITS[8j+7]` (30 R82, 20 R62). -/
def frameByte (bits : Vector Bool 40) (j : Fin 5) : Byte :=
  pack8 bits[8 * j.val] bits[8 * j.val + 1] bits[8 * j.val + 2] bits[8 * j.val + 3] bits[8 * j.val + 4]
    bits[8 * j.val + 5] bits[8 * j.val + 6] bits[8 * j.val + 7]

/-- The five bytes of the frame (44 R176). -/
def packFrame (bits : Vector Bool 40) : Frame :=
  { b0 := frameByte bits 0
    b1 := frameByte bits 1
    b2 := frameByte bits 2
    b3 := frameByte bits 3
    b4 := frameByte bits 4 }

/-- `sum`: the four data bytes added as wide integers, 0 to 1020 (44 R178). -/
def Frame.sum (f : Frame) : Nat := f.b0.toNat + f.b1.toNat + f.b2.toNat + f.b3.toNat

/-- `chk = sum mod 256` (44 R178). -/
def Frame.checksum (f : Frame) : Byte := BitVec.ofNat 8 (f.sum % 256)

/-- A frame is valid exactly when its fifth byte is the checksum of the first four (30 R101, 44 R178). -/
def Frame.valid (f : Frame) : Bool := f.b4 == f.checksum

/-- `10 * zext_12(integral) + zext_12(decimal)` (45 R191). -/
def tenths (integral decimal : Byte) : Tenths := 10#12 * integral.setWidth 12 + decimal.setWidth 12

/-- The level a pin drives on the line, if it drives a known one: in output mode, the latched level (40 R112, 10 R50). -/
def drivenLevel (mode : PinMode) (out : PinOut) : Option Level :=
  match mode, out with
  | .output, .high => some .high
  | .output, .low => some .low
  | .output, .unknown => none
  | .input, _ => none
  | .unknown, _ => none

/-- `PIN_MODE` after a capability operation (40 R112 to R119). -/
def pinModeAfter (op : CapOp) (mode : PinMode) : PinMode :=
  match op with
  | .setModeOutput => .output
  | .setModeInput => .input
  | .driveHigh => mode
  | .driveLow => mode
  | .queryHigh => mode
  | .queryLow => mode
  | .wait => mode
  | .now => mode

/-- `PIN_OUT` after a capability operation (40 R112 to R119). -/
def pinOutAfter (op : CapOp) (out : PinOut) : PinOut :=
  match op with
  | .setModeOutput => out
  | .setModeInput => out
  | .driveHigh => .high
  | .driveLow => .low
  | .queryHigh => out
  | .queryLow => out
  | .wait => out
  | .now => out

/-- The least time an operation takes by itself: `WAIT`'s argument, nothing for the others (40 R118, R119). -/
def leastTime (op : CapOp) (arg : Word) : Nat :=
  match op with
  | .wait => arg.toNat
  | .setModeOutput => 0
  | .setModeInput => 0
  | .driveHigh => 0
  | .driveLow => 0
  | .queryHigh => 0
  | .queryLow => 0
  | .now => 0

/-- The response to an operation served when the level seen is `line` and the clock reads `clock` (30 R90; 40 R116,
R117, R119). -/
def responseTo (op : CapOp) (line : Level) (clock : Nat) : Response :=
  match op with
  | .queryHigh => .bit (line == .high)
  | .queryLow => .bit (line == .low)
  | .now => .time clock
  | .setModeOutput => .empty
  | .setModeInput => .empty
  | .driveHigh => .empty
  | .driveLow => .empty
  | .wait => .empty

/-- The capability operation a micro-state issues, with its argument: the column "issues" of 30 R96. -/
def issuedBy (p : Params) : MicroState → Option (CapOp × Word)
  | .idle => none
  | .hOut => some (.setModeOutput, 0#32)
  | .hHi0 => some (.driveHigh, 0#32)
  | .hLo => some (.driveLow, 0#32)
  | .hHold => some (.wait, p.tStartLowUs)
  | .hHi1 => some (.driveHigh, 0#32)
  | .hRel => some (.wait, p.tReleaseUs)
  | .hIn => some (.setModeInput, 0#32)
  | .hW1T => some (.now, 0#32)
  | .hW1Q => some (.queryLow, 0#32)
  | .hW1C => some (.now, 0#32)
  | .hW2T => some (.now, 0#32)
  | .hW2Q => some (.queryHigh, 0#32)
  | .hW2C => some (.now, 0#32)
  | .hW3T => some (.now, 0#32)
  | .hW3Q => some (.queryLow, 0#32)
  | .hW3C => some (.now, 0#32)
  | .sWhT => some (.now, 0#32)
  | .sWhQ => some (.queryHigh, 0#32)
  | .sWhC => some (.now, 0#32)
  | .sRec => some (.now, 0#32)
  | .sWlT => some (.now, 0#32)
  | .sWlQ => some (.queryLow, 0#32)
  | .sWlC => some (.now, 0#32)
  | .sCls => some (.now, 0#32)
  | .vPack => none
  | .vChk => none
  | .cConv => none
  | .done => none
  | .errTimeout => none
  | .errChecksum => none

end Sys2Proof.Machine
end

