-- ==== Sys2Proof/Machine/Ops.lean ====
section
/-! DEFINITION. The named operations over the state: the environment serving a capability operation, the core issuing
one, the register writes, taking an error, starting a readout, reset, and the host port. -/

namespace Sys2Proof.Machine

/-! ## The environment -/

/-- The environment's move once the script is over: the lasting one, or a free value (40 R126, log 3). -/
def State.unscripted (s : State) (tick : Nat) : EnvMove := s.lasting.getD (Config.freeMove tick)

/-- The environment's next move: the head of the script, or the unscripted one (40 R126, log 3). -/
def State.nextMove (s : State) : EnvMove :=
  match s.script with
  | m :: _ => m
  | [] => s.unscripted s.envTick

/-- `PIN_MODE` once the environment has performed `op` (40 R112, R113). -/
def State.servedMode (s : State) (op : CapOp) : PinMode := pinModeAfter op s.pinMode

/-- `PIN_OUT` once the environment has performed `op` (40 R114, R115). -/
def State.servedOut (s : State) (op : CapOp) : PinOut := pinOutAfter op s.pinOut

/-- `LINE` at the instant `op` is served: what the pin drives, or the environment's level where it drives nothing known
(10 R50; 40 R112, R113; log 17). -/
def State.servedLine (s : State) (op : CapOp) : Level :=
  (drivenLevel (s.servedMode op) (s.servedOut op)).getD s.nextMove.level

/-- The time `op` takes by itself on the clock that `NOW` reads: in the reference environment `WAIT`'s argument (40 R118);
in the general one only 40 R120 constrains that clock (40 R126, log 26). -/
def State.imposedTime (s : State) (op : CapOp) (arg : Word) : Nat :=
  match s.params.environment with
  | .reference => leastTime op arg
  | .general => 0

/-- `CLOCK` when `op` is served: time only goes forward (40 R120), by at least what the operation takes (log 2). -/
def State.servedClock (s : State) (op : CapOp) (arg : Word) : Nat :=
  s.clock + s.imposedTime op arg + s.nextMove.delay

/-- The level a query is answered by: the line's in the reference environment (40 R116, R117), any level in the general
one, whatever the pin's mode (40 R126, log 26). -/
def State.seenLevel (s : State) (op : CapOp) : Level :=
  match s.params.environment with
  | .reference => s.servedLine op
  | .general => s.nextMove.level

/-- The environment performs one capability operation (40 R112 to R119). No core register changes (40 R110). -/
def State.environment (s : State) (op : CapOp) (arg : Word) : State :=
  { s with
    pinMode := s.servedMode op
    pinOut := s.servedOut op
    line := s.servedLine op
    clock := s.servedClock op arg
    script := s.script.tail
    envTick := s.envTick + 1 }

/-- A line is added to the trace (00 R11). -/
def State.record (s : State) (e : TraceEntry) : State := { s with trace := e :: s.trace }

/-- The response the environment gives to `op` (30 R90). -/
def State.responseOf (s : State) (op : CapOp) (arg : Word) : Response :=
  responseTo op (s.seenLevel op) (s.servedClock op arg)

/-- `Cap(OP, arg)` of 00 R14: the operation is issued, performed and completed in one step (00 R10, 20 R65, log 4). The
response of `NOW` is the `clock` then. -/
def State.issue (s : State) (op : CapOp) (arg : Word) : State :=
  (s.environment op arg).record { micro := s.upc, op := op, arg := arg, rsp := s.responseOf op arg }

/-! ## Register writes -/

/-- `UPC <- m`. -/
def State.setUpc (s : State) (m : MicroState) : State := { s with upc := m }

/-- `T_ENTRY <- t`. -/
def State.setEntry (s : State) (t : Nat) : State := { s with tEntry := t }

/-- `T_REC <- t`. -/
def State.setRec (s : State) (t : Nat) : State := { s with tRec := t }

/-- `BITS[IDX] <- b; IDX <- IDX + 1` (43 R164). The caller sees to `IDX < 40`; there is no other cell to write. -/
def State.storeBit (s : State) (b : Bool) : State :=
  { s with
    bits := s.bits.setIfInBounds s.idx.toNat b
    idx := s.idx + 1#6 }

/-- `FRAME[0..4] <- f`. -/
def State.setFrame (s : State) (f : Frame) : State := { s with frame := f }

/-- `HUM <- h; TEMP <- t`. -/
def State.setReading (s : State) (h t : Tenths) : State := { s with hum := h, temp := t }

/-- Every datapath register is cleared: what reset, START and error entry share (10 R20, R55; 46 R204; 60 R226). -/
def State.clearDatapath (s : State) : State :=
  { s with
    tEntry := 0
    tRec := 0
    idx := 0#6
    bits := Vector.replicate 40 false
    frame := Frame.zero
    hum := 0#12
    temp := 0#12 }

/-! ## Taking an exception, starting, resetting -/

/-- The two error kinds (60 R220). -/
inductive ErrorKind where
  | timeout
  | checksumError
  deriving DecidableEq, Repr

/-- The error micro-state of an error kind (60 R221). -/
def ErrorKind.microState : ErrorKind → MicroState
  | .timeout => .errTimeout
  | .checksumError => .errChecksum

/-- `raise Timeout` and `raise ChecksumError`: the datapath is cleared and `UPC` takes the error micro-state; nothing is
saved and nothing of the environment changes (60 R226). There is no return (60 R228): the way on is a new START. -/
def State.raiseError (s : State) (e : ErrorKind) : State := s.clearDatapath.setUpc e.microState

/-- The effect of an accepted START (46 R204). -/
def State.beginReadout (s : State) : State := s.clearDatapath.setUpc .hOut

/-- Reset of the core (70 R250): the pin, the clock and the model's own fields are not touched (70 R251). -/
def State.resetCore (s : State) : State := s.clearDatapath.setUpc .idle

/-- What the environment does with the operation the core was presenting when reset withdrew it: performs it all the
same, or not (70 R252, 93 U11, log 8). The core takes no response, so the trace has no line for it. -/
def State.withdraw (s : State) (completes : Bool) : State :=
  if completes then
    match issuedBy s.params s.upc with
    | some (op, arg) => s.environment op arg
    | none => s
  else s

/-! ## The host port -/

/-- A host read is answered on the host port; it has no side effect on the core (10 R45, log 9). -/
def State.answerHost (s : State) (reg : Nat) : State := { s with hostRdata := s.hostValue reg }

/-- The turn at the head of the agenda is over. -/
def State.popTurn (s : State) : State := { s with agenda := s.agenda.tail }

end Sys2Proof.Machine
end

