-- ==== Sys2Proof/Machine/Capability.lean ====
section
/-! DEFINITION. The eight capability operations by themselves: what the environment does and answers (40 R112 to R119).
No core register changes (40 R110). The argument is `WAIT`'s duration; the environment ignores it elsewhere (30 R90). -/

namespace Sys2Proof.Machine

/-- `SET_MODE_OUTPUT`: `PIN_MODE <- output`; the pin drives the line to `PIN_OUT` (40 R112). -/
def execSetModeOutput (arg : Word) (s : State) : Host.Outcome State Fault Refusal :=
  .next (s.issue .setModeOutput arg)

/-- `SET_MODE_INPUT`: `PIN_MODE <- input`; the pin stops driving, `PIN_OUT` keeps its value (40 R113). -/
def execSetModeInput (arg : Word) (s : State) : Host.Outcome State Fault Refusal :=
  .next (s.issue .setModeInput arg)

/-- `DRIVE_HIGH`: `PIN_OUT <- high`; in output mode the line goes high (40 R114). -/
def execDriveHigh (arg : Word) (s : State) : Host.Outcome State Fault Refusal :=
  .next (s.issue .driveHigh arg)

/-- `DRIVE_LOW`: `PIN_OUT <- low`; in output mode the line goes low (40 R115). -/
def execDriveLow (arg : Word) (s : State) : Host.Outcome State Fault Refusal :=
  .next (s.issue .driveLow arg)

/-- `QUERY_HIGH`: true if the line is high when it is served, in the reference environment (40 R116, R126). -/
def execQueryHigh (arg : Word) (s : State) : Host.Outcome State Fault Refusal :=
  .next (s.issue .queryHigh arg)

/-- `QUERY_LOW`: true if the line is low when it is served, in the reference environment (40 R117, R126). -/
def execQueryLow (arg : Word) (s : State) : Host.Outcome State Fault Refusal :=
  .next (s.issue .queryLow arg)

/-- `WAIT`: completes when at least `arg` microseconds have passed, in the reference environment (40 R118, R126). -/
def execWait (arg : Word) (s : State) : Host.Outcome State Fault Refusal :=
  .next (s.issue .wait arg)

/-- `NOW`: the timestamp (40 R119). -/
def execNow (arg : Word) (s : State) : Host.Outcome State Fault Refusal :=
  .next (s.issue .now arg)

end Sys2Proof.Machine
end

