-- ==== Sys2Proof/Machine/Converter.lean ====
section
/-! DEFINITION. The fixed-point converter, micro-state 27 (45 R190, R191). -/

namespace Sys2Proof.Machine

/-- `C_CONV`: humidity and temperature in tenths, for every byte value (45 R191, R193). -/
def execCConv (s : State) : Host.Outcome State Fault Refusal :=
  .next ((s.setReading (tenths s.frame.b0 s.frame.b1) (tenths s.frame.b2 s.frame.b3)).setUpc .done)

end Sys2Proof.Machine
end

