-- ==== Sys2Proof/Machine/LevelWait.lean ====
section
/-! DEFINITION. The three micro-operations of the level-wait, over which its fifteen instances are written (41 R131 to
R133), and the control step of the handshake (42 section 2). -/

namespace Sys2Proof.Machine

/-- A control step of the handshake: issue the operation, ignore the empty response, go on (42 R141 to R147). -/
def controlStep (op : CapOp) (arg : Word) (onward : MicroState) (s : State) : State :=
  (s.issue op arg).setUpc onward

/-- `x_T`: `T_ENTRY` takes the response of `NOW` (41 R131). -/
def takeEntry (query : MicroState) (s : State) : State :=
  let t := s.issue .now 0#32
  (t.setEntry t.clock).setUpc query

/-- The query for a level (41 R130). -/
def queryOp : Level → CapOp
  | .low => .queryLow
  | .high => .queryHigh

/-- `x_Q`: query the pin for `target`; a true response skips the deadline check (41 R132). -/
def queryPin (target : Level) (success check : MicroState) (s : State) : State :=
  (s.issue (queryOp target) 0#32).setUpc
    (if s.responseOf (queryOp target) 0#32 = .bit true then success else check)

/-- `x_C`: raise Timeout if the clock has passed the deadline, else poll again (41 R133). -/
def checkDeadline (query : MicroState) (s : State) : State :=
  let t := s.issue .now 0#32
  if deadlinePassed t.clock t.tEntry t.params.tTimeoutUs then t.raiseError .timeout else t.setUpc query

end Sys2Proof.Machine
end

