-- ==== Sys2Proof/Machine/Handshake.lean ====
section
/-! DEFINITION. The handshake sequencer, micro-states 1 to 16 (42 R140 to R150). -/

namespace Sys2Proof.Machine

/-- `H_OUT`: `Cap(SET_MODE_OUTPUT, 0); UPC <- H_HI0` (42 R141). -/
def execHOut (s : State) : Host.Outcome State Fault Refusal :=
  .next (controlStep .setModeOutput 0#32 .hHi0 s)

/-- `H_HI0`: `Cap(DRIVE_HIGH, 0); UPC <- H_LO` (42 R142). -/
def execHHi0 (s : State) : Host.Outcome State Fault Refusal :=
  .next (controlStep .driveHigh 0#32 .hLo s)

/-- `H_LO`: `Cap(DRIVE_LOW, 0); UPC <- H_HOLD` (42 R143). -/
def execHLo (s : State) : Host.Outcome State Fault Refusal :=
  .next (controlStep .driveLow 0#32 .hHold s)

/-- `H_HOLD`: `Cap(WAIT, T_START_LOW_US); UPC <- H_HI1` (42 R144). -/
def execHHold (s : State) : Host.Outcome State Fault Refusal :=
  .next (controlStep .wait s.params.tStartLowUs .hHi1 s)

/-- `H_HI1`: `Cap(DRIVE_HIGH, 0); UPC <- H_REL` (42 R145). -/
def execHHi1 (s : State) : Host.Outcome State Fault Refusal :=
  .next (controlStep .driveHigh 0#32 .hRel s)

/-- `H_REL`: `Cap(WAIT, T_RELEASE_US); UPC <- H_IN` (42 R146). -/
def execHRel (s : State) : Host.Outcome State Fault Refusal :=
  .next (controlStep .wait s.params.tReleaseUs .hIn s)

/-- `H_IN`: `Cap(SET_MODE_INPUT, 0); UPC <- H_W1_T` (42 R147). -/
def execHIn (s : State) : Host.Outcome State Fault Refusal :=
  .next (controlStep .setModeInput 0#32 .hW1T s)

/-- `H_W1_T`: the entry of the wait for the sensor's acknowledgement (42 R148, 41 R131). -/
def execHW1T (s : State) : Host.Outcome State Fault Refusal :=
  .next (takeEntry .hW1Q s)

/-- `H_W1_Q`: is the line low? Success goes to `H_W2_T` (42 R148, 41 R132). -/
def execHW1Q (s : State) : Host.Outcome State Fault Refusal :=
  .next (queryPin .low .hW2T .hW1C s)

/-- `H_W1_C`: the deadline check of `H_W1` (42 R148, 41 R133). -/
def execHW1C (s : State) : Host.Outcome State Fault Refusal :=
  .next (checkDeadline .hW1Q s)

/-- `H_W2_T`: the entry of the wait for high (42 R149, 41 R131). -/
def execHW2T (s : State) : Host.Outcome State Fault Refusal :=
  .next (takeEntry .hW2Q s)

/-- `H_W2_Q`: is the line high? Success goes to `H_W3_T` (42 R149, 41 R132). -/
def execHW2Q (s : State) : Host.Outcome State Fault Refusal :=
  .next (queryPin .high .hW3T .hW2C s)

/-- `H_W2_C`: the deadline check of `H_W2` (42 R149, 41 R133). -/
def execHW2C (s : State) : Host.Outcome State Fault Refusal :=
  .next (checkDeadline .hW2Q s)

/-- `H_W3_T`: the entry of the wait for low again (42 R150, 41 R131). -/
def execHW3T (s : State) : Host.Outcome State Fault Refusal :=
  .next (takeEntry .hW3Q s)

/-- `H_W3_Q`: is the line low again? Success goes to the sampler, `S_WH_T` (42 R150, 41 R132). -/
def execHW3Q (s : State) : Host.Outcome State Fault Refusal :=
  .next (queryPin .low .sWhT .hW3C s)

/-- `H_W3_C`: the deadline check of `H_W3` (42 R150, 41 R133). -/
def execHW3C (s : State) : Host.Outcome State Fault Refusal :=
  .next (checkDeadline .hW3Q s)

end Sys2Proof.Machine
end

