-- ==== Sys2Proof/Machine/Readout.lean ====
section
/-! DEFINITION. The micro-states at rest and the host command START (46 R202 to R205, 60 R227). -/

namespace Sys2Proof.Machine

/-- `IDLE`: issues nothing and changes no register (46 R202). -/
def execIdle (s : State) : Host.Outcome State Fault Refusal := .next s

/-- `DONE`: issues nothing and changes no register (46 R203). -/
def execDone (s : State) : Host.Outcome State Fault Refusal := .next s

/-- `ERR_TIMEOUT`: issues nothing and changes no register (60 R227). -/
def execErrTimeout (s : State) : Host.Outcome State Fault Refusal := .next s

/-- `ERR_CHECKSUM`: issues nothing and changes no register (60 R227). -/
def execErrChecksum (s : State) : Host.Outcome State Fault Refusal := .next s

/-- `START`: accepted when `BUSY = 0` (46 R204), ignored while `BUSY = 1` (46 R205). The data bits above bit 0 are
ignored (30 R98). -/
def execStart (_ignored : BitVec 31) (s : State) : Host.Outcome State Fault Refusal :=
  .next (if s.busy then s else s.beginReadout)

end Sys2Proof.Machine
end

