-- ==== Sys2Proof/Machine/Sampler.lean ====
section
/-! DEFINITION. The bit sampler, micro-states 17 to 24 (43 R160 to R165). -/

namespace Sys2Proof.Machine

/-- `S_WH_T`: the entry of the wait for the high pulse (43 R161, 41 R131). -/
def execSWhT (s : State) : Host.Outcome State Fault Refusal :=
  .next (takeEntry .sWhQ s)

/-- `S_WH_Q`: is the line high? Success goes to `S_REC` (43 R161, 41 R132). -/
def execSWhQ (s : State) : Host.Outcome State Fault Refusal :=
  .next (queryPin .high .sRec .sWhC s)

/-- `S_WH_C`: the deadline check of `S_WH` (43 R161, 41 R133). -/
def execSWhC (s : State) : Host.Outcome State Fault Refusal :=
  .next (checkDeadline .sWhQ s)

/-- `S_REC`: `T_REC` takes its own response of `NOW` (43 R162). -/
def execSRec (s : State) : Host.Outcome State Fault Refusal :=
  let t := s.issue .now 0#32
  .next ((t.setRec t.clock).setUpc .sWlT)

/-- `S_WL_T`: the entry of the wait for the end of the pulse (43 R163, 41 R131). -/
def execSWlT (s : State) : Host.Outcome State Fault Refusal :=
  .next (takeEntry .sWlQ s)

/-- `S_WL_Q`: is the line low? Success goes to `S_CLS` (43 R163, 41 R132). -/
def execSWlQ (s : State) : Host.Outcome State Fault Refusal :=
  .next (queryPin .low .sCls .sWlC s)

/-- `S_WL_C`: the deadline check of `S_WL` (43 R163, 41 R133). -/
def execSWlC (s : State) : Host.Outcome State Fault Refusal :=
  .next (checkDeadline .sWlQ s)

/-- Where `S_CLS` goes: the test uses `IDX` before the write (43 R164, 46 R206). -/
def afterClassify (idx : BitVec 6) : MicroState := if idx.toNat + 1 = 40 then .vPack else .sWhT

/-- Why `S_CLS` has no successor, if it has none: the subtraction has no natural value (93 U2), the parameter makes an
elapsed time at or above the timeout a fault (43 R165), or `IDX` names no cell of `BITS` (20 R61). No run of the model
meets the first or the last. -/
def sampleFault (p : Params) (now tRec : Nat) (idx : BitVec 6) : Option Fault :=
  if now < tRec then some .clockBackwards
  else if p.elapsedViolation = .fault ∧ p.tTimeoutUs ≤ now - tRec then some .elapsedViolation
  else if idx.toNat < 40 then none
  else some .bitIndexOutOfRange

/-- `S_CLS`: `elapsed` is the response of `NOW` less `T_REC`; the bit is its comparison with the threshold, stored at
`IDX`, which counts up (43 R164). -/
def execSCls (s : State) : Host.Outcome State Fault Refusal :=
  let t := s.issue .now 0#32
  match sampleFault t.params t.clock t.tRec t.idx with
  | some f => .fault f
  | none => .next ((t.storeBit (classify (t.clock - t.tRec) t.params.tThresholdUs)).setUpc (afterClassify t.idx))

end Sys2Proof.Machine
end

