-- ==== Sys2Proof/Machine/Validator.lean ====
section
/-! DEFINITION. The frame assembler and checksum validator, micro-states 25 and 26 (44 R175 to R178). -/

namespace Sys2Proof.Machine

/-- `V_PACK`: the five bytes are packed from `BITS` in one step (44 R176). -/
def execVPack (s : State) : Host.Outcome State Fault Refusal :=
  .next ((s.setFrame (packFrame s.bits)).setUpc .vChk)

/-- `V_CHK`: a frame whose fifth byte is not the sum of the other four modulo 256 raises ChecksumError (44 R178). -/
def execVChk (s : State) : Host.Outcome State Fault Refusal :=
  .next (if s.frame.valid then s.setUpc .cConv else s.raiseError .checksumError)

end Sys2Proof.Machine
end

