-- ==== Sys2Proof/Machine/Dispatch.lean ====
section
/-! DEFINITION. The dispatch: one arm per instruction, each a direct call of its meaning. -/

namespace Sys2Proof.Machine

def exec (i : Instr) (s : State) : Host.Outcome State Fault Refusal :=
  match i with
  | .setModeOutput arg => Sys2Proof.Machine.execSetModeOutput arg s
  | .setModeInput arg => Sys2Proof.Machine.execSetModeInput arg s
  | .driveHigh arg => Sys2Proof.Machine.execDriveHigh arg s
  | .driveLow arg => Sys2Proof.Machine.execDriveLow arg s
  | .queryHigh arg => Sys2Proof.Machine.execQueryHigh arg s
  | .queryLow arg => Sys2Proof.Machine.execQueryLow arg s
  | .wait arg => Sys2Proof.Machine.execWait arg s
  | .now arg => Sys2Proof.Machine.execNow arg s
  | .idle => Sys2Proof.Machine.execIdle s
  | .hOut => Sys2Proof.Machine.execHOut s
  | .hHi0 => Sys2Proof.Machine.execHHi0 s
  | .hLo => Sys2Proof.Machine.execHLo s
  | .hHold => Sys2Proof.Machine.execHHold s
  | .hHi1 => Sys2Proof.Machine.execHHi1 s
  | .hRel => Sys2Proof.Machine.execHRel s
  | .hIn => Sys2Proof.Machine.execHIn s
  | .hW1T => Sys2Proof.Machine.execHW1T s
  | .hW1Q => Sys2Proof.Machine.execHW1Q s
  | .hW1C => Sys2Proof.Machine.execHW1C s
  | .hW2T => Sys2Proof.Machine.execHW2T s
  | .hW2Q => Sys2Proof.Machine.execHW2Q s
  | .hW2C => Sys2Proof.Machine.execHW2C s
  | .hW3T => Sys2Proof.Machine.execHW3T s
  | .hW3Q => Sys2Proof.Machine.execHW3Q s
  | .hW3C => Sys2Proof.Machine.execHW3C s
  | .sWhT => Sys2Proof.Machine.execSWhT s
  | .sWhQ => Sys2Proof.Machine.execSWhQ s
  | .sWhC => Sys2Proof.Machine.execSWhC s
  | .sRec => Sys2Proof.Machine.execSRec s
  | .sWlT => Sys2Proof.Machine.execSWlT s
  | .sWlQ => Sys2Proof.Machine.execSWlQ s
  | .sWlC => Sys2Proof.Machine.execSWlC s
  | .sCls => Sys2Proof.Machine.execSCls s
  | .vPack => Sys2Proof.Machine.execVPack s
  | .vChk => Sys2Proof.Machine.execVChk s
  | .cConv => Sys2Proof.Machine.execCConv s
  | .done => Sys2Proof.Machine.execDone s
  | .errTimeout => Sys2Proof.Machine.execErrTimeout s
  | .errChecksum => Sys2Proof.Machine.execErrChecksum s
  | .start ignored => Sys2Proof.Machine.execStart ignored s

end Sys2Proof.Machine
end

