-- ==== Sys2Proof/Machine/Fetch.lean ====
section
/-! DEFINITION. What the machine runs next: the turn at the head of the agenda is a word to decode (the core's micro-state
code, a host write to `HR0`, a bus word) or an event with no instruction (reset, a host read, an ignored host write).
And where an instruction's word is placed so that it is the next to run. -/

namespace Sys2Proof.Machine

/-- What a turn holds: a word to decode and run in a state, or the state after an event that is no instruction. -/
inductive Fetched where
  | word (cw : CodeWord) (s : State)
  | event (s : State)
  deriving DecidableEq, Repr

/-- The turn whose move it is; the core's where the agenda is empty (log 5). -/
def State.turn (s : State) : Turn :=
  match s.agenda with
  | [] => .core
  | t :: _ => t

/-- A host write: register 0 takes a command word (30 R98); a write to any other register is ignored (10 R45). -/
def hostWrite (reg : Nat) (data : Word) (s : State) : Fetched :=
  match reg with
  | 0 => .word (.host data) s
  | _ + 1 => .event s

/-- The turn is taken from the agenda; the core's turn reads the code of its micro-state (30 R96), reset wins over a
step and over a host write of the same cycle (70 R250), and a host read is answered with what the register holds
between two steps (10 R45). -/
def fetch (s : State) : Fetched :=
  match s.turn with
  | .core => .word (.useq s.upc.code) s.popTurn
  | .reset completes _ => .event (s.popTurn.withdraw completes).resetCore
  | .hostWrite reg data => hostWrite reg data s.popTurn
  | .hostRead reg => .event (s.popTurn.answerHost reg)
  | .busWord w => .word (.cap w) s.popTurn

/-- A word that decodes to no instruction: a host write with bit 0 clear "does nothing" (10 R41); the reserved codes have
no meaning (30 R102, R104). -/
def undecoded (e : DecodeError) (s : State) : Host.Outcome State Fault Refusal :=
  match e with
  | .notACommand _ => .next s
  | .reservedCapability op => .refused (.reservedCapability op)
  | .reservedMicroState code => .refused (.reservedMicroState code)

/-- The state in which a word is the next to run: a micro-state code stands in `UPC` with the turn the core's; a host
word is the data of a host write to `HR0`; a capability word is on the bus (log 7). Code 31 cannot stand in `UPC`
(30 R104), so nothing is placed for it. -/
def placeWord (cw : CodeWord) (s : State) : State :=
  match cw with
  | .useq w =>
    match MicroState.ofCode w with
    | some m => { s with upc := m, agenda := [] }
    | none => s
  | .host w => { s with agenda := [.hostWrite 0 w] }
  | .cap w => { s with agenda := [.busWord w] }

end Sys2Proof.Machine
end

