-- ==== Sys2Proof/Machine/Step.lean ====
section
/-! DEFINITION. One step of the machine: the turn at the head of the agenda. -/

namespace Sys2Proof.Machine

/-- A step takes one turn. A turn that holds a word runs the instruction it decodes to; a turn that holds none is an
event between two steps of the core (10 R45, 46 R204, 70 R252). -/
def step (s : State) : Host.Outcome State Fault Refusal :=
  match fetch s with
  | .event t => .next t
  | .word cw t =>
    match decode cw with
    | .ok i => exec i t
    | .error e => undecoded e t

/-- `s` with the opcode-table word `w` of a row of `nbits` bits placed where the step reads its next instruction. -/
def State.withFetchWord (s : State) (nbits w : Nat) : State :=
  match tableCodeWord nbits w with
  | some cw => placeWord cw s
  | none => s

end Sys2Proof.Machine
end

