-- ==== Sys2Proof/Safety.lean ====
section
/-! DEFINITION. What counts as a safe state and a safe run, in the terms the claims use: what stays the same over a step,
the invariants of the machine, the progress premises, the five level-wait instances, and the stimulus of a whole readout. -/

namespace Sys2Proof

open Machine

/-! ## Runs -/

/-- `k` steps of the machine, ending early where a step has no successor. A run is safe where it answers a next state. -/
def Machine.run : Nat → State → Host.Outcome State Fault Refusal
  | 0, s => .next s
  | k + 1, s =>
    match step s with
    | .next t => run k t
    | .fault f => .fault f
    | .refused r => .refused r

/-! ## What a step leaves alone -/

/-- Every datapath register is as before (10 R20). -/
def RegistersSame (s t : State) : Prop :=
  t.tEntry = s.tEntry ∧ t.tRec = s.tRec ∧ t.idx = s.idx ∧ t.bits = s.bits ∧ t.frame = s.frame ∧ t.hum = s.hum ∧
    t.temp = s.temp

/-- Every datapath register is 0 (10 R55). -/
def RegistersCleared (t : State) : Prop :=
  t.tEntry = 0 ∧ t.tRec = 0 ∧ t.idx = 0#6 ∧ t.bits = Vector.replicate 40 false ∧ t.frame = Frame.zero ∧ t.hum = 0#12 ∧
    t.temp = 0#12

/-- The pin, the line and the clock are as before, and the environment has made no move (10 R50). -/
def EnvironmentSame (s t : State) : Prop :=
  t.pinMode = s.pinMode ∧ t.pinOut = s.pinOut ∧ t.line = s.line ∧ t.clock = s.clock ∧ t.script = s.script ∧
    t.lasting = s.lasting ∧ t.envTick = s.envTick

/-- The parameters, the coming turns and the host port are as before: no instruction touches them. -/
def SurroundingsSame (s t : State) : Prop :=
  t.params = s.params ∧ t.agenda = s.agenda ∧ t.hostRdata = s.hostRdata

/-- One capability operation was issued, and it is the newest line of the trace (00 R10, R11). -/
def Issued (s t : State) (op : CapOp) (arg : Word) (rsp : Response) : Prop :=
  t.trace = { micro := s.upc, op := op, arg := arg, rsp := rsp } :: s.trace ∧ t.envTick = s.envTick + 1 ∧
    t.script = s.script.tail ∧ t.lasting = s.lasting

/-- No capability operation was issued. -/
def IssuedNothing (s t : State) : Prop := t.trace = s.trace ∧ EnvironmentSame s t

/-- The pin is as before: only the four control operations change it (20 R66). -/
def PinSame (s t : State) : Prop := t.pinMode = s.pinMode ∧ t.pinOut = s.pinOut

/-- The core is as before: its registers, `UPC`, and what surrounds it (40 R110). -/
def CoreSame (s t : State) : Prop := t.upc = s.upc ∧ RegistersSame s t ∧ SurroundingsSame s t

/-- An instruction is a control step: it issues one operation with an empty response, writes no register but `UPC`, and
completes in every state (42 section 2). The pin changes as the operation says, and the clock does not go back; in the
reference environment it moves by at least what the operation takes. -/
def IsControlStep (i : Instr) (op : CapOp) (arg : Params → Word) (onward : MicroState) : Prop :=
  ∀ s, ∃ t, exec i s = .next t ∧ Issued s t op (arg s.params) .empty ∧ t.upc = onward ∧ RegistersSame s t ∧
    SurroundingsSame s t ∧ t.pinMode = pinModeAfter op s.pinMode ∧ t.pinOut = pinOutAfter op s.pinOut ∧
    s.clock ≤ t.clock ∧
    (s.params.environment = .reference → s.clock + leastTime op (arg s.params) ≤ t.clock)

/-- The step cleared the datapath: reset, an accepted START, or an error raised by the core (10 R29). -/
def ClearingEvent (s t : State) : Prop :=
  (∃ c w, s.turn = .reset c w) ∨ (∃ d, s.turn = .hostWrite 0 d ∧ d[0] = true ∧ s.busy = false ∧ t.upc = .hOut) ∨
    (s.turn = .core ∧ s.busy = true ∧ (t.upc = .errTimeout ∨ t.upc = .errChecksum))

/-! ## Invariants -/

/-- The recorded timestamps are not ahead of the clock (40 R120). -/
def ClockOk (s : State) : Prop := s.tEntry ≤ s.clock ∧ s.tRec ≤ s.clock

/-- `IDX` by micro-state: 0 before the sampler and after an error, below 40 while a bit is being sampled, 40 from the
40th classification onward (10 R23, 20 R61). -/
def CountOk (s : State) : Prop :=
  (s.upc.code.toNat ≤ 16 → s.idx = 0#6) ∧
    (17 ≤ s.upc.code.toNat → s.upc.code.toNat ≤ 24 → s.idx.toNat ≤ 39) ∧
    (25 ≤ s.upc.code.toNat → s.upc.code.toNat ≤ 28 → s.idx = 40#6) ∧
    (29 ≤ s.upc.code.toNat → s.idx = 0#6)

/-- The cells of `BITS` at and above `IDX` have not been written, and `FRAME` is 0 until `V_PACK` and the packed bits from
then to `DONE` (10 R24, R25). -/
def CaptureOk (s : State) : Prop :=
  (∀ i : Fin 40, s.idx.toNat ≤ i.val → s.bits[i.val] = false) ∧
    (s.upc.code.toNat ≤ 25 ∨ 29 ≤ s.upc.code.toNat → s.frame = Frame.zero) ∧
    (26 ≤ s.upc.code.toNat → s.upc.code.toNat ≤ 28 → s.frame = packFrame s.bits)

/-- `HUM` and `TEMP` are 0 except in `DONE`, where they are the conversion of a frame that passed its check (10 R26, R43;
46 R201). -/
def ReadingOk (s : State) : Prop :=
  (s.upc ≠ .done → s.hum = 0#12 ∧ s.temp = 0#12) ∧
    (s.upc = .cConv ∨ s.upc = .done → s.frame.valid = true) ∧
    (s.upc = .done → s.hum = tenths s.frame.b0 s.frame.b1 ∧ s.temp = tenths s.frame.b2 s.frame.b3)

/-- In `IDLE` and in the error micro-states both timestamps are 0, and `T_REC` is 0 through the handshake (42 R151;
60 R226; 70 R250). -/
def RestOk (s : State) : Prop :=
  (s.upc = .idle ∨ s.upc = .errTimeout ∨ s.upc = .errChecksum → s.tEntry = 0 ∧ s.tRec = 0) ∧
    (s.upc.code.toNat ≤ 16 → s.tRec = 0)

/-- Mode discipline (40 R125): output mode from `H_HI0` to `H_IN`, the latch low while the start pulse is held and high
before and after it, and input mode with the latch high at every micro-state after `H_IN`. -/
def PinOk (s : State) : Prop :=
  (2 ≤ s.upc.code.toNat → s.upc.code.toNat ≤ 7 → s.pinMode = .output) ∧
    (s.upc = .hLo ∨ s.upc = .hRel ∨ s.upc = .hIn → s.pinOut = .high) ∧
    (s.upc = .hHold ∨ s.upc = .hHi1 → s.pinOut = .low) ∧
    (8 ≤ s.upc.code.toNat → s.pinMode = .input ∧ s.pinOut = .high)

/-- In output mode the line has the latched level (40 R112, R114, R115). -/
def LineOk (s : State) : Prop :=
  (s.pinMode = .output → s.pinOut = .high → s.line = .high) ∧
    (s.pinMode = .output → s.pinOut = .low → s.line = .low)

/-- The `NOW` responses of a trace, newest first. -/
def nowResponses : List TraceEntry → List Nat
  | [] => []
  | e :: rest =>
    match e.rsp with
    | .time t => t :: nowResponses rest
    | .bit _ => nowResponses rest
    | .empty => nowResponses rest

/-- Successive `NOW` responses never decrease, and none is ahead of the clock (40 R120, 20 R70). -/
def TraceOk (s : State) : Prop :=
  List.Pairwise (fun newer older => older ≤ newer) (nowResponses s.trace) ∧
    ∀ t ∈ nowResponses s.trace, t ≤ s.clock

/-- A capability word handed to the environment from outside the core. -/
def Turn.isBusWord : Turn → Bool
  | .busWord _ => true
  | .core => false
  | .reset _ _ => false
  | .hostWrite _ _ => false
  | .hostRead _ => false

/-- Only the core issues capability operations (20 R60). -/
def CoreOnly (s : State) : Prop := ∀ t ∈ s.agenda, Turn.isBusWord t = false

/-! ## Progress of the environment -/

/-- The same state before an environment whose next move is `m`. -/
def Machine.State.facing (s : State) (m : EnvMove) : State := { s with script := m :: s.script }

/-- The environment's coming moves, counted from 0. -/
def futureMove (s : State) (n : Nat) : EnvMove := (s.script[n]?).getD (s.unscripted (s.envTick + n))

/-- What the clock has come to, at the least, once the environment has made `n` more moves. -/
def timeAfter (s : State) : Nat → Nat
  | 0 => s.clock
  | n + 1 => timeAfter s n + (futureMove s n).delay

/-- Progress (a) of 40 R123: every capability operation is completed, whatever the state. In this model it is so by
construction (log 4). -/
def OperationsComplete : Prop :=
  ∀ (s : State) (op : CapOp) (arg : Word), ∃ i t rsp, decode (.cap (op.word arg)) = .ok i ∧ exec i s = .next t ∧
    Issued s t op arg rsp

/-- Progress (b) of 40 R123: the clock passes every bound, if the environment keeps being asked. -/
def TimeMoves (s : State) : Prop := ∀ bound, ∃ n, bound < timeAfter s n

/-- The fairness assumptions on the environment (40 R123). -/
def Progress (s : State) : Prop := OperationsComplete ∧ TimeMoves s

/-- Queries are answered by the environment's level: in the general environment always (40 R126), in the reference one
where the pin does not drive the line. -/
def Hears (s : State) : Prop := s.params.environment = .general ∨ s.pinMode ≠ .output

/-- `S_CLS` classifies: by the parameter, or because the elapsed time is below the timeout (43 R165). -/
def Classifies (p : Params) (elapsed : Nat) : Prop := p.elapsedViolation = .classify ∨ elapsed < p.tTimeoutUs

/-! ## The level-wait instances -/

/-- One level-wait: its three micro-states, where success leads, and the level it waits for. -/
structure WaitInstance where
  entry : MicroState
  query : MicroState
  check : MicroState
  success : MicroState
  target : Level
  deriving DecidableEq, Repr

/-- The five instances (41 R135): `H_W1`, `H_W2`, `H_W3`, `S_WH`, `S_WL`. -/
def waitInstances : List WaitInstance :=
  [{ entry := .hW1T, query := .hW1Q, check := .hW1C, success := .hW2T, target := .low },
   { entry := .hW2T, query := .hW2Q, check := .hW2C, success := .hW3T, target := .high },
   { entry := .hW3T, query := .hW3Q, check := .hW3C, success := .sWhT, target := .low },
   { entry := .sWhT, query := .sWhQ, check := .sWhC, success := .sRec, target := .high },
   { entry := .sWlT, query := .sWlQ, check := .sWlC, success := .sCls, target := .low }]

/-! ## The stimulus of a whole readout -/

/-- What the environment does during one level-wait: at the entry read, in each round whose query does not see the
level (the query's move and the deadline read's), and at the query that sees it (41 R136). -/
structure WaitStim where
  entry : EnvMove
  misses : List (EnvMove × EnvMove)
  hit : EnvMove
  deriving DecidableEq, Repr

/-- The moves of the missed rounds, in order. -/
def missMoves (misses : List (EnvMove × EnvMove)) : List EnvMove := misses.flatMap (fun r => [r.1, r.2])

/-- The time the missed rounds take. -/
def missTime (misses : List (EnvMove × EnvMove)) : Nat := (misses.map (fun r => r.1.delay + r.2.delay)).sum

/-- The moves of one level-wait, in order. -/
def WaitStim.moves (w : WaitStim) : List EnvMove := w.entry :: (missMoves w.misses ++ [w.hit])

/-- The number of queries of one level-wait. -/
def WaitStim.queries (w : WaitStim) : Nat := w.misses.length + 1

/-- The level is not seen before the last query, the deadline has not passed at any check, and the last query sees it. -/
def WaitStim.Succeeds (w : WaitStim) (target : Level) (timeout : Nat) : Prop :=
  (∀ r ∈ w.misses, r.1.level ≠ target) ∧ missTime w.misses ≤ timeout ∧ w.hit.level = target

/-- The time from just before the entry read to the query that sees the level. -/
def WaitStim.span (w : WaitStim) : Nat := w.entry.delay + missTime w.misses + w.hit.delay

/-- What the environment does during one bit (43 R160). -/
structure BitStim where
  rise : WaitStim
  record : EnvMove
  fall : WaitStim
  close : EnvMove
  deriving DecidableEq, Repr

/-- The moves of one bit, in order. -/
def BitStim.moves (b : BitStim) : List EnvMove := b.rise.moves ++ b.record :: (b.fall.moves ++ [b.close])

/-- The time between the clock read of `S_REC` and that of `S_CLS` (43 R164). -/
def BitStim.elapsed (b : BitStim) : Nat := b.fall.span + b.close.delay

/-- Both level-waits of the bit succeed. -/
def BitStim.Succeeds (b : BitStim) (timeout : Nat) : Prop :=
  b.rise.Succeeds .high timeout ∧ b.fall.Succeeds .low timeout

/-- The number of queries of one bit. -/
def BitStim.queries (b : BitStim) : Nat := b.rise.queries + b.fall.queries

/-- What the environment does during one readout: at the control steps, in the three level-waits of the handshake, and
for each bit. -/
structure ReadoutStim where
  control : List EnvMove
  w1 : WaitStim
  w2 : WaitStim
  w3 : WaitStim
  bits : List BitStim
  deriving DecidableEq, Repr

/-- The moves of a readout, in order. -/
def ReadoutStim.moves (r : ReadoutStim) : List EnvMove :=
  r.control ++ (r.w1.moves ++ (r.w2.moves ++ (r.w3.moves ++ r.bits.flatMap BitStim.moves)))

/-- Seven control steps, and every level-wait of the readout succeeds. -/
def ReadoutStim.Succeeds (r : ReadoutStim) (timeout : Nat) : Prop :=
  r.control.length = 7 ∧ r.w1.Succeeds .low timeout ∧ r.w2.Succeeds .high timeout ∧ r.w3.Succeeds .low timeout ∧
    ∀ b ∈ r.bits, b.Succeeds timeout

/-- The classified bits, in temporal order. -/
def ReadoutStim.sampled (r : ReadoutStim) (threshold : Nat) : List Bool :=
  r.bits.map (fun b => classify b.elapsed threshold)

/-- The total number of queries over the level-waits: `S` of 46 R208. -/
def ReadoutStim.queries (r : ReadoutStim) : Nat :=
  r.w1.queries + r.w2.queries + r.w3.queries + (r.bits.map BitStim.queries).sum

end Sys2Proof
end

