-- ==== Sys2Proof/Certificates/Slice0/Obligations.lean ====
section
/-! DEFINITION. The statements about the machine. Each docstring cites the rules of spec/ the statement formalises; a
clause that rests on a choice of the model's names its log entry. -/

open Sys2Proof Sys2Proof.Machine

/-! ## Encoding -/

/-- 30 R90, R95, R98. Decoding the word of any instruction gives it back, at every value of every operand. -/
def Obligations.DecodeOfEncodeIsIdentity : Prop := ∀ i : Instr, decode (encode i) = .ok i

/-- 30 R90, R95, R98. Each word has one meaning: the instruction a word decodes to encodes to that word. No bit of a word
is dropped. -/
def Obligations.EncodeOfDecodeIsIdentity : Prop := ∀ (w : CodeWord) (i : Instr), decode w = .ok i → encode i = w

/-- 95 section 0, 30 R95, 95 HO5. A few words written out from the spec's tables decode to what they stand for. -/
def Obligations.WordsOfTheTablesDecode : Prop :=
  decode (.cap 0x100000000#36) = .ok (.setModeOutput 0#32) ∧ decode (.cap 0x800004E20#36) = .ok (.wait 20000#32) ∧
    decode (.cap 0x900000000#36) = .ok (.now 0#32) ∧ decode (.useq 0b00001#5) = .ok .hOut ∧
    decode (.useq 0b01010#5) = .ok .hW1C ∧ decode (.useq 0b11000#5) = .ok .sCls ∧
    decode (.useq 0b11001#5) = .ok .vPack ∧ decode (.useq 0b11011#5) = .ok .cConv ∧
    decode (.useq 0b11110#5) = .ok .errChecksum ∧ decode (.host 0xFFFFFFFF#32) = .ok (.start 0x7FFFFFFF#31)

/-- 30 R98, R102, R104. Exactly which words are instructions: the eight capability codes, the micro-state codes but 31,
and host data with bit 0 set. A reserved capability code on the bus is refused by name (log 21). -/
def Obligations.ReservedWordsAreRefused : Prop :=
  (∀ w : BitVec 36, (∃ i, decode (.cap w) = .ok i) ↔
      w.extractLsb' 32 4 ∈ [1#4, 2#4, 3#4, 4#4, 5#4, 6#4, 8#4, 9#4]) ∧
    (∀ (w : BitVec 36) (s : State), w.extractLsb' 32 4 ∈ [0#4, 7#4, 10#4, 11#4, 12#4, 13#4, 14#4, 15#4] →
      s.turn = .busWord w → step s = .refused (.reservedCapability (w.extractLsb' 32 4))) ∧
    (∀ w : BitVec 5, (∃ i, decode (.useq w) = .ok i) ↔ w ≠ 31#5) ∧
    (∀ w : Word, (∃ i, decode (.host w) = .ok i) ↔ w[0] = true)

/-- A step runs the decoded instruction (log 5): when the turn's word decodes to `i`, the step is `exec i` in the state with
that turn taken from the agenda, and nothing else is done around it. The core's turn holds the code of `UPC`, a host write to
`HR0` its data, a bus word itself. -/
def Obligations.StepRunsDecodedInstruction : Prop :=
  (∀ (s t : State) (w : CodeWord) (i : Instr), fetch s = .word w t → decode w = .ok i → step s = exec i t) ∧
    (∀ s : State, s.turn = .core →
      fetch s = .word (.useq s.upc.code) s.popTurn ∧ step s = exec s.upc.instr s.popTurn) ∧
    (∀ (s : State) (d : Word), s.turn = .hostWrite 0 d → fetch s = .word (.host d) s.popTurn) ∧
    (∀ (s : State) (w : BitVec 36), s.turn = .busWord w → fetch s = .word (.cap w) s.popTurn) ∧
    (∀ s : State, CoreSame { s with agenda := s.agenda.tail } s.popTurn ∧ IssuedNothing s s.popTurn)

/-- A table word that decodes is the next instruction to run once it is placed (log 7). -/
def Obligations.PlacedWordRunsNext : Prop :=
  ∀ (s : State) (nbits w : Nat) (i : Instr), decodeTableWord nbits w = some i →
    step (s.withFetchWord nbits w) = exec i (s.withFetchWord nbits w).popTurn

/-! ## Reset -/

/-- 10 R55. After reset, and in the state `State.reset`, `UPC` is `IDLE`, every datapath register is 0, the flags are 0,
and every host register reads 0; the environment is not changed by reset of the core, where it does not complete the
operation the core was presenting (93 U11, log 8). START gives the datapath the same values. -/
def Obligations.ResetValues : Prop :=
  (State.reset.upc = .idle ∧ RegistersCleared State.reset ∧ State.reset.busy = false ∧
      State.reset.doneFlag = false ∧ State.reset.errCode = 0#2 ∧ ∀ n, State.reset.hostValue n = 0#32) ∧
    (∀ (s : State) (c : Bool) (w : Option (Nat × Word)), s.turn = .reset c w →
      ∃ t, step s = .next t ∧ t.upc = .idle ∧ RegistersCleared t ∧ t.busy = false ∧ t.doneFlag = false ∧
        t.errCode = 0#2 ∧ (∀ n, t.hostValue n = 0#32) ∧ (c = false → EnvironmentSame s t)) ∧
    (∀ (s : State) (g : BitVec 31), s.busy = false → ∃ t, exec (.start g) s = .next t ∧ RegistersCleared t)

/-- 70 R250 to R252, log 8. Reset wins over a step and over a host write of the same cycle, in every state: the core is in
`IDLE` and cleared, no operation joins the trace, and the environment is as before unless it completes the operation that
the core was presenting. -/
def Obligations.ResetWinsOverEverything : Prop :=
  ∀ (s : State) (c : Bool) (w : Option (Nat × Word)), s.turn = .reset c w →
    ∃ t, step s = .next t ∧ t.upc = .idle ∧ RegistersCleared t ∧ t.trace = s.trace ∧ t.agenda = s.agenda.tail ∧
      t.params = s.params ∧ t.hostRdata = s.hostRdata ∧
      (c = false ∨ issuedBy s.params s.upc = none → EnvironmentSame s t) ∧
      (c = true → ∀ op arg, issuedBy s.params s.upc = some (op, arg) →
        t.pinMode = pinModeAfter op s.pinMode ∧ t.pinOut = pinOutAfter op s.pinOut ∧ s.clock ≤ t.clock)

/-! ## Capability operations -/

/-- 40 R112, R113. `SET_MODE_OUTPUT` and `SET_MODE_INPUT`: encoding, issuers, and effect in every state. In output mode the
line has the latched level; `PIN_OUT` keeps its value; there is no response, no flag, no exception. An unknown latch is
followed at once by `DRIVE_HIGH`. -/
def Obligations.SetModeOperations : Prop :=
  encode (.setModeOutput 0#32) = .cap 0x100000000#36 ∧ encode (.setModeInput 0#32) = .cap 0x200000000#36 ∧
    (∀ (p : Params) (m : MicroState) (a : Word),
      (issuedBy p m = some (.setModeOutput, a) ↔ m = .hOut ∧ a = 0#32) ∧
        (issuedBy p m = some (.setModeInput, a) ↔ m = .hIn ∧ a = 0#32)) ∧
    (∀ (arg : Word) (s : State), ∃ t, exec (.setModeOutput arg) s = .next t ∧ t.pinMode = .output ∧
      t.pinOut = s.pinOut ∧ (s.pinOut = .high → t.line = .high) ∧ (s.pinOut = .low → t.line = .low) ∧
      s.clock ≤ t.clock ∧ Issued s t .setModeOutput arg .empty ∧ CoreSame s t) ∧
    (∀ (arg : Word) (s : State), ∃ t, exec (.setModeInput arg) s = .next t ∧ t.pinMode = .input ∧
      t.pinOut = s.pinOut ∧ t.line = s.nextMove.level ∧ s.clock ≤ t.clock ∧ Issued s t .setModeInput arg .empty ∧
      CoreSame s t) ∧
    (∀ s : State, ∃ t, exec .hOut s = .next t ∧ issuedBy t.params t.upc = some (.driveHigh, 0#32))

/-- 40 R114, R115. `DRIVE_HIGH` and `DRIVE_LOW`: encoding, issuers, and effect in every state: the latch takes the level,
and in output mode the line goes to it. The effect off output mode is the model's choice, which the spec leaves without a
meaning (R114's corner case, 93 U9, log 16): the latch is written all the same, and the line is the environment's. -/
def Obligations.DriveOperations : Prop :=
  encode (.driveHigh 0#32) = .cap 0x300000000#36 ∧ encode (.driveLow 0#32) = .cap 0x400000000#36 ∧
    (∀ (p : Params) (m : MicroState) (a : Word),
      (issuedBy p m = some (.driveHigh, a) ↔ (m = .hHi0 ∨ m = .hHi1) ∧ a = 0#32) ∧
        (issuedBy p m = some (.driveLow, a) ↔ m = .hLo ∧ a = 0#32)) ∧
    (∀ (arg : Word) (s : State), ∃ t, exec (.driveHigh arg) s = .next t ∧ t.pinOut = .high ∧ t.pinMode = s.pinMode ∧
      (s.pinMode = .output → t.line = .high) ∧ (s.pinMode ≠ .output → t.line = s.nextMove.level) ∧
      s.clock ≤ t.clock ∧ Issued s t .driveHigh arg .empty ∧ CoreSame s t) ∧
    (∀ (arg : Word) (s : State), ∃ t, exec (.driveLow arg) s = .next t ∧ t.pinOut = .low ∧ t.pinMode = s.pinMode ∧
      (s.pinMode = .output → t.line = .low) ∧ (s.pinMode ≠ .output → t.line = s.nextMove.level) ∧
      s.clock ≤ t.clock ∧ Issued s t .driveLow arg .empty ∧ CoreSame s t)

/-- 40 R116, R117, R126. `QUERY_HIGH` and `QUERY_LOW`: encoding, issuers, and effect in every state: in the reference
environment the response is whether the line has the level when the query is served, and in the general one it is the
environment's level that answers, whatever the pin's mode, so that either truth value is possible; the pin is as before.
That off output mode the line is the environment's is the model's
choice (log 17), and so is the driven level in output mode (log 16). -/
def Obligations.QueryOperations : Prop :=
  encode (.queryHigh 0#32) = .cap 0x500000000#36 ∧ encode (.queryLow 0#32) = .cap 0x600000000#36 ∧
    (∀ (p : Params) (m : MicroState) (a : Word),
      (issuedBy p m = some (.queryHigh, a) ↔ (m = .hW2Q ∨ m = .sWhQ) ∧ a = 0#32) ∧
        (issuedBy p m = some (.queryLow, a) ↔ (m = .hW1Q ∨ m = .hW3Q ∨ m = .sWlQ) ∧ a = 0#32)) ∧
    (∀ (arg : Word) (s : State), ∃ t r, exec (.queryHigh arg) s = .next t ∧ Issued s t .queryHigh arg (.bit r) ∧
      (s.params.environment = .reference → (r = true ↔ t.line = .high)) ∧
      (s.params.environment = .general → (r = true ↔ s.nextMove.level = .high)) ∧
      (s.pinMode ≠ .output → t.line = s.nextMove.level) ∧ PinSame s t ∧
      s.clock ≤ t.clock ∧ CoreSame s t) ∧
    (∀ (arg : Word) (s : State), ∃ t r, exec (.queryLow arg) s = .next t ∧ Issued s t .queryLow arg (.bit r) ∧
      (s.params.environment = .reference → (r = true ↔ t.line = .low)) ∧
      (s.params.environment = .general → (r = true ↔ s.nextMove.level = .low)) ∧
      (s.pinMode ≠ .output → t.line = s.nextMove.level) ∧ PinSame s t ∧
      s.clock ≤ t.clock ∧ CoreSame s t) ∧
    (∀ (arg : Word) (s : State) (r : Bool), s.params.environment = .general →
      (∃ m t, exec (.queryHigh arg) (s.facing m) = .next t ∧ Issued (s.facing m) t .queryHigh arg (.bit r)) ∧
      (∃ m t, exec (.queryLow arg) (s.facing m) = .next t ∧ Issued (s.facing m) t .queryLow arg (.bit r)))

/-- 40 R118. `WAIT`: encoding, issuers, and effect in every state: it completes, in the reference environment with the clock
at least its argument past issue (in the general one the clock does not go back, and may stay: R126, log 26); it has no
response and leaves the pin and the core alone. With the default parameters it is never issued with 0. -/
def Obligations.WaitOperation : Prop :=
  (∀ a : Word, encode (.wait a) = .cap (8#4 ++ a)) ∧
    (∀ (p : Params) (m : MicroState) (a : Word), issuedBy p m = some (.wait, a) ↔
      (m = .hHold ∧ a = p.tStartLowUs) ∨ (m = .hRel ∧ a = p.tReleaseUs)) ∧
    (∀ m : MicroState, issuedBy Config.defaults m ≠ some (.wait, 0#32)) ∧
    (∀ (arg : Word) (s : State), ∃ t, exec (.wait arg) s = .next t ∧ s.clock ≤ t.clock ∧
      (s.params.environment = .reference → s.clock + arg.toNat ≤ t.clock) ∧
      Issued s t .wait arg .empty ∧ PinSame s t ∧ CoreSame s t) ∧
    (∀ (arg : Word) (s : State), s.params.environment = .general → ∃ m t,
      exec (.wait arg) (s.facing m) = .next t ∧ Issued (s.facing m) t .wait arg .empty ∧ t.clock = s.clock)

/-- 40 R119, R120, R126. `NOW`: encoding, issuers, and effect in every state: the response is the clock, which has not gone
back, and every such response is possible; the pin and the core are as before. -/
def Obligations.NowOperation : Prop :=
  encode (.now 0#32) = .cap 0x900000000#36 ∧
    (∀ (p : Params) (m : MicroState) (a : Word), issuedBy p m = some (.now, a) ↔
      m ∈ [.hW1T, .hW1C, .hW2T, .hW2C, .hW3T, .hW3C, .sWhT, .sWhC, .sRec, .sWlT, .sWlC, .sCls] ∧ a = 0#32) ∧
    (∀ (arg : Word) (s : State), ∃ t, exec (.now arg) s = .next t ∧ Issued s t .now arg (.time t.clock) ∧
      s.clock ≤ t.clock ∧ PinSame s t ∧ CoreSame s t) ∧
    (∀ (arg : Word) (s : State) (n : Nat), s.clock ≤ n → ∃ m t,
      exec (.now arg) (s.facing m) = .next t ∧ Issued (s.facing m) t .now arg (.time n) ∧ t.clock = n)

/-- 40 R110. Every word that decodes as a capability operation completes, and changes no register of the core. -/
def Obligations.CapabilityOperationsLeaveTheCore : Prop :=
  ∀ (w : BitVec 36) (i : Instr) (s : State), decode (.cap w) = .ok i → ∃ t, exec i s = .next t ∧ CoreSame s t

/-- 40 R122. Served at the same instant, exactly one of the two queries returns true. -/
def Obligations.QueriesAreComplementary : Prop :=
  ∀ (s : State) (a b : Word), ∃ t u r, exec (.queryLow a) s = .next t ∧ exec (.queryHigh b) s = .next u ∧
    Issued s t .queryLow a (.bit r) ∧ Issued s u .queryHigh b (.bit (!r))

/-- 30 R96. The micro-operation table, code by code: the capability word each micro-state issues, or none; and every
micro-operation that completes issues that word and no other, on which the environment does and answers what that
capability operation does by itself. -/
def Obligations.MicroOperationsIssueTheirRow : Prop :=
  (∀ p : Params, (List.range 31).map (fun n => ((MicroState.ofCode (BitVec.ofNat 5 n)).bind (issuedBy p)).map
      (fun x => x.1.word x.2)) =
    [none, some 0x100000000#36, some 0x300000000#36, some 0x400000000#36, some (8#4 ++ p.tStartLowUs),
     some 0x300000000#36, some (8#4 ++ p.tReleaseUs), some 0x200000000#36,
     some 0x900000000#36, some 0x600000000#36, some 0x900000000#36,
     some 0x900000000#36, some 0x500000000#36, some 0x900000000#36,
     some 0x900000000#36, some 0x600000000#36, some 0x900000000#36,
     some 0x900000000#36, some 0x500000000#36, some 0x900000000#36,
     some 0x900000000#36,
     some 0x900000000#36, some 0x600000000#36, some 0x900000000#36,
     some 0x900000000#36, none, none, none, none, none, none]) ∧
    (∀ (m : MicroState) (s t : State), exec m.instr s = .next t →
      match issuedBy s.params m with
      | none => IssuedNothing s t
      | some (op, arg) => ∃ rsp, Issued s t op arg rsp ∧
          ∃ i u, decode (.cap (op.word arg)) = .ok i ∧ exec i s = .next u ∧ EnvironmentSame u t ∧ t.trace = u.trace)

/-! ## The handshake -/

/-- 42 R141 to R147. The seven control steps, in every state: the operation each issues, where it goes, and that it writes
no register but `UPC`. -/
def Obligations.ControlStepsOfTheHandshake : Prop :=
  IsControlStep .hOut .setModeOutput (fun _ => 0#32) .hHi0 ∧ IsControlStep .hHi0 .driveHigh (fun _ => 0#32) .hLo ∧
    IsControlStep .hLo .driveLow (fun _ => 0#32) .hHold ∧ IsControlStep .hHold .wait (·.tStartLowUs) .hHi1 ∧
    IsControlStep .hHi1 .driveHigh (fun _ => 0#32) .hRel ∧ IsControlStep .hRel .wait (·.tReleaseUs) .hIn ∧
    IsControlStep .hIn .setModeInput (fun _ => 0#32) .hW1T

/-- 42 R152. From `H_LO` in output mode the line is low from the first step to the end of the wait of `T_START_LOW_US`, then
high to the end of the wait of `T_RELEASE_US`, and only then does the pin let go. In the reference environment, where R118
holds of the clock, the waits last at least that long. -/
def Obligations.StartPulseOnTheLine : Prop :=
  ∀ s : State, s.upc = .hLo → s.agenda = [] → s.pinMode = .output →
    ∃ a b c d e, step s = .next a ∧ step a = .next b ∧ step b = .next c ∧ step c = .next d ∧ step d = .next e ∧
      a.line = .low ∧ b.line = .low ∧ c.line = .high ∧ d.line = .high ∧
      (s.params.environment = .reference →
        a.clock + s.params.tStartLowUs.toNat ≤ b.clock ∧ c.clock + s.params.tReleaseUs.toNat ≤ d.clock) ∧
      d.pinMode = .output ∧ e.pinMode = .input ∧ e.upc = .hW1T

/-! ## The level-wait -/

/-- 41 R131. `x_T` in its five instances (`H_W1_T`, `H_W2_T`, `H_W3_T`, `S_WH_T`, `S_WL_T`), in every state: `T_ENTRY` takes
the response of `NOW`, `UPC` goes to the next code, and no other register changes. -/
def Obligations.EntryTimestampIsTaken : Prop :=
  waitInstances.map (fun w => w.entry.code.toNat) = [8, 11, 14, 17, 21] ∧
  ∀ w ∈ waitInstances, w.query.code.toNat = w.entry.code.toNat + 1 ∧
    ∀ s : State, ∃ t, exec w.entry.instr s = .next t ∧ Issued s t .now 0#32 (.time t.tEntry) ∧ t.upc = w.query ∧
      s.clock ≤ t.tEntry ∧ t.tRec = s.tRec ∧ t.idx = s.idx ∧ t.bits = s.bits ∧ t.frame = s.frame ∧ t.hum = s.hum ∧
      t.temp = s.temp ∧ PinSame s t ∧ SurroundingsSame s t

/-- 41 R132, R135. `x_Q` in its five instances (`H_W1_Q`, `H_W2_Q`, `H_W3_Q`, `S_WH_Q`, `S_WL_Q`), in every state: it queries
for the target; a true response goes two codes on, a false one to the next code, whatever the clock; only `UPC` is written. -/
def Obligations.QueryDecidesTheWait : Prop :=
  waitInstances.map (fun w =>
      (w.entry.code.toNat, w.query.code.toNat, w.check.code.toNat, w.target, w.success.code.toNat)) =
    [(8, 9, 10, .low, 11), (11, 12, 13, .high, 14), (14, 15, 16, .low, 17), (17, 18, 19, .high, 20),
      (21, 22, 23, .low, 24)] ∧
  ∀ w ∈ waitInstances, w.success.code.toNat = w.query.code.toNat + 2 ∧ w.check.code.toNat = w.query.code.toNat + 1 ∧
    ∀ s : State, ∃ t r, exec w.query.instr s = .next t ∧
      Issued s t (match w.target with | .low => .queryLow | .high => .queryHigh) 0#32 (.bit r) ∧
      (r = true ↔ s.seenLevel (queryOp w.target) = w.target) ∧
      t.upc = (if r then w.success else w.check) ∧ RegistersSame s t ∧ PinSame s t ∧ SurroundingsSame s t

/-- 41 R133. `x_C` in its five instances (`H_W1_C`, `H_W2_C`, `H_W3_C`, `S_WH_C`, `S_WL_C`), in every state: a `NOW` response
above `T_ENTRY + T_TIMEOUT_US`, strictly, raises Timeout; any other goes back to `x_Q` and writes only `UPC`. -/
def Obligations.DeadlineIsChecked : Prop :=
  waitInstances.map (fun w => w.check.code.toNat) = [10, 13, 16, 19, 23] ∧
  ∀ w ∈ waitInstances, w.check.code.toNat = w.query.code.toNat + 1 ∧
    ∀ s : State, ∃ t n, exec w.check.instr s = .next t ∧ Issued s t .now 0#32 (.time n) ∧ s.clock ≤ n ∧ t.clock = n ∧
      (n ≤ s.tEntry + s.params.tTimeoutUs → t.upc = w.query ∧ RegistersSame s t) ∧
      (s.tEntry + s.params.tTimeoutUs < n → t.upc = .errTimeout ∧ RegistersCleared t) ∧
      PinSame s t ∧ SurroundingsSame s t

/-- 41 R136, R135. A level-wait whose level is first seen at its last query, with no deadline passed at the checks before,
ends in success after two steps per query, having issued two operations per query; only `T_ENTRY` and `UPC` change. -/
def Obligations.LevelWaitSucceedsAtItsQuery : Prop :=
  ∀ w ∈ waitInstances, ∀ (s : State) (x : WaitStim) (rest : List EnvMove),
    s.upc = w.entry → s.agenda = [] → Hears s → s.script = x.moves ++ rest →
    x.Succeeds w.target s.params.tTimeoutUs →
    ∃ t, run (2 * x.queries) s = .next t ∧ t.upc = w.success ∧ t.tEntry = s.clock + x.entry.delay ∧
      t.clock = s.clock + x.span ∧ t.script = rest ∧ t.trace.length = s.trace.length + 2 * x.queries ∧
      t.tRec = s.tRec ∧ t.idx = s.idx ∧ t.bits = s.bits ∧ t.frame = s.frame ∧ t.hum = s.hum ∧ t.temp = s.temp ∧
      PinSame s t ∧ SurroundingsSame s t

/-- 41 R134, R136. A level-wait whose level is never seen ends in Timeout at its first check past the deadline: more than
the timeout after entry, and at most one polling period more (at most, where R134 says less than: log 25). -/
def Obligations.LevelWaitTimesOut : Prop :=
  ∀ w ∈ waitInstances, ∀ (s : State) (entry : EnvMove) (before : List (EnvMove × EnvMove)) (last : EnvMove × EnvMove)
    (rest : List EnvMove),
    s.upc = w.entry → s.agenda = [] → Hears s →
    s.script = entry :: (missMoves (before ++ [last]) ++ rest) →
    (∀ r ∈ before ++ [last], r.1.level ≠ w.target) → missTime before ≤ s.params.tTimeoutUs →
    s.params.tTimeoutUs < missTime (before ++ [last]) →
    ∃ t, run (1 + 2 * (before.length + 1)) s = .next t ∧ t.upc = .errTimeout ∧ RegistersCleared t ∧
      t.trace.length = s.trace.length + (1 + 2 * (before.length + 1)) ∧
      s.clock + entry.delay + s.params.tTimeoutUs < t.clock ∧
      t.clock ≤ s.clock + entry.delay + s.params.tTimeoutUs + (last.1.delay + last.2.delay) ∧
      PinSame s t ∧ SurroundingsSame s t

/-! ## Errors -/

/-- 60 R226. Both errors, in every state that raises them: the datapath is cleared, `UPC` takes the error micro-state, no
capability operation is issued on the way, and the environment is left as it is. -/
def Obligations.ErrorEntryClearsTheDatapath : Prop :=
  (∀ w ∈ waitInstances, ∀ s : State, s.tEntry + s.params.tTimeoutUs < s.servedClock .now 0#32 →
    ∃ t, exec w.check.instr s = .next t ∧ t.upc = .errTimeout ∧ RegistersCleared t ∧
      t.trace = (s.issue .now 0#32).trace ∧ EnvironmentSame (s.issue .now 0#32) t ∧ SurroundingsSame s t) ∧
    (∀ s : State, s.frame.b4.toNat ≠
        (s.frame.b0.toNat + s.frame.b1.toNat + s.frame.b2.toNat + s.frame.b3.toNat) % 256 →
      ∃ t, exec .vChk s = .next t ∧ t.upc = .errChecksum ∧ RegistersCleared t ∧ IssuedNothing s t ∧
        SurroundingsSame s t)

/-- 60 R221, R226. No recovery data is attached: two states that differ at most in their datapath registers and both raise
the error at the same micro-state go to the same state. -/
def Obligations.ErrorEntryForgetsTheReadout : Prop :=
  ∀ s u : State, u.upc = s.upc → u.trace = s.trace → EnvironmentSame s u → SurroundingsSame s u →
    (∀ w ∈ waitInstances, s.tEntry + s.params.tTimeoutUs < s.servedClock .now 0#32 →
      u.tEntry + u.params.tTimeoutUs < u.servedClock .now 0#32 → exec w.check.instr s = exec w.check.instr u) ∧
    (s.frame.valid = false → u.frame.valid = false → exec .vChk s = exec .vChk u)

/-- 60 R221, R223. Only these events enter an error micro-state: Timeout from a deadline check whose response is past the
deadline, ChecksumError from `V_CHK` on a frame that is not valid. -/
def Obligations.ErrorsComeOnlyFromTheirChecks : Prop :=
  ∀ s t : State, step s = .next t →
    (t.upc = .errTimeout → s.upc ≠ .errTimeout →
      s.turn = .core ∧ s.upc ∈ [.hW1C, .hW2C, .hW3C, .sWhC, .sWlC] ∧
        ∃ n, Issued s t .now 0#32 (.time n) ∧ s.tEntry + s.params.tTimeoutUs < n) ∧
    (t.upc = .errChecksum → s.upc ≠ .errChecksum →
      s.turn = .core ∧ s.upc = .vChk ∧ s.frame.b4.toNat ≠
        (s.frame.b0.toNat + s.frame.b1.toNat + s.frame.b2.toNat + s.frame.b3.toNat) % 256)

/-! ## The bit sampler -/

/-- 43 R162. `S_REC`, in every state: `T_REC` takes the response of its own `NOW`, `UPC` goes to `S_WL_T`, and no other
register changes. -/
def Obligations.RecordTimestamp : Prop :=
  ∀ s : State, ∃ t, exec .sRec s = .next t ∧ Issued s t .now 0#32 (.time t.tRec) ∧ t.upc = .sWlT ∧ s.clock ≤ t.tRec ∧
    t.tEntry = s.tEntry ∧ t.idx = s.idx ∧ t.bits = s.bits ∧ t.frame = s.frame ∧ t.hum = s.hum ∧ t.temp = s.temp ∧
    PinSame s t ∧ SurroundingsSame s t

/-- 43 R164, R165. `S_CLS`, in the default configuration and, whatever the parameter, for an elapsed time below the
timeout, wherever `IDX` names a cell and the clock is not behind `T_REC`: the bit at `IDX` is the comparison of `elapsed`
with the threshold, the other cells stay, `IDX` counts up, and the last bit goes to `V_PACK`. -/
def Obligations.BitIsClassifiedAndStored : Prop :=
  ∀ s : State, Classifies s.params (s.servedClock .now 0#32 - s.tRec) → s.idx.toNat ≤ 39 → s.tRec ≤ s.clock →
    ∃ t n, exec .sCls s = .next t ∧ Issued s t .now 0#32 (.time n) ∧ s.tRec ≤ n ∧
      (∀ i : Fin 40, t.bits[i.val] =
        if i.val = s.idx.toNat then decide (s.params.tThresholdUs ≤ n - s.tRec) else s.bits[i.val]) ∧
      t.idx.toNat = s.idx.toNat + 1 ∧ t.upc = (if s.idx.toNat + 1 = 40 then .vPack else .sWhT) ∧
      t.tEntry = s.tEntry ∧ t.tRec = s.tRec ∧ t.frame = s.frame ∧ t.hum = s.hum ∧ t.temp = s.temp ∧ PinSame s t ∧
      SurroundingsSame s t

/-- 43 R165. An elapsed time at or above the timeout is a step without successor where `ELAPSED_VIOLATION` is `fault`; where
it is `classify` the step completes, the bit is the comparison with the threshold as always (a 1, where the threshold is
not above the timeout), and nothing is flagged. A shorter elapsed time is classified under either. -/
def Obligations.LongElapsedTimeFollowsTheParameter : Prop :=
  ∀ s : State, s.idx.toNat ≤ 39 → s.tRec ≤ s.clock →
    (s.params.tTimeoutUs ≤ s.servedClock .now 0#32 - s.tRec → s.params.elapsedViolation = .fault →
      exec .sCls s = .fault .elapsedViolation) ∧
    (s.params.tTimeoutUs ≤ s.servedClock .now 0#32 - s.tRec → s.params.elapsedViolation = .classify →
      ∃ t, exec .sCls s = .next t ∧ t.busy = true ∧ t.errCode = 0#2 ∧
        (∀ h : s.idx.toNat < 40, t.bits[s.idx.toNat] =
          decide (s.params.tThresholdUs ≤ s.servedClock .now 0#32 - s.tRec)) ∧
        (s.params.tThresholdUs ≤ s.params.tTimeoutUs → ∀ h : s.idx.toNat < 40, t.bits[s.idx.toNat] = true)) ∧
    (s.servedClock .now 0#32 - s.tRec < s.params.tTimeoutUs →
      ∃ t, exec .sCls s = .next t ∧ t.idx = s.idx + 1#6 ∧ t.upc = (if s.idx.toNat = 39 then .vPack else .sWhT) ∧
        ∀ h : s.idx.toNat < 40, t.bits[s.idx.toNat] =
          decide (s.params.tThresholdUs ≤ s.servedClock .now 0#32 - s.tRec))

/-- Logs 13 and 14. Where `S_CLS` stops beyond R165, by the model's choice: a clock behind `T_REC` (93 U2) and an `IDX` that
names no cell (20 R61); the invariants of this file rule both out. -/
def Obligations.SamplerStopsOutsideItsPremises : Prop :=
  ∀ s : State,
    (s.servedClock .now 0#32 < s.tRec → exec .sCls s = .fault .clockBackwards) ∧
    (s.tRec ≤ s.servedClock .now 0#32 → s.params.elapsedViolation = .classify → 40 ≤ s.idx.toNat →
      exec .sCls s = .fault .bitIndexOutOfRange)

/-- 43 R160, R164, R165, R167. One whole bit with any number of polls, where the sampler classifies: two steps per query
and two more; the bit stored at `IDX` is the comparison of the time between the two clock reads with the threshold. -/
def Obligations.OneBitIsSampled : Prop :=
  ∀ (s : State) (b : BitStim) (rest : List EnvMove), s.upc = .sWhT → s.agenda = [] → Hears s →
    Classifies s.params b.elapsed → s.idx.toNat ≤ 39 → s.script = b.moves ++ rest →
    b.Succeeds s.params.tTimeoutUs →
    ∃ t, run (2 * b.queries + 2) s = .next t ∧ t.upc = (if s.idx.toNat = 39 then .vPack else .sWhT) ∧
      t.idx.toNat = s.idx.toNat + 1 ∧
      (∀ i : Fin 40, t.bits[i.val] =
        if i.val = s.idx.toNat then decide (s.params.tThresholdUs ≤ b.elapsed) else s.bits[i.val]) ∧
      t.script = rest ∧ t.trace.length = s.trace.length + (2 * b.queries + 2) ∧ t.frame = s.frame ∧ t.hum = s.hum ∧
      t.temp = s.temp ∧ PinSame s t ∧ SurroundingsSame s t

/-! ## The frame and the Reading -/

/-- 44 R176. `V_PACK`, in every state: byte `j` is the sum of its eight bits weighted from 128 down to 1; `BITS` and every
other register stay; nothing is issued. -/
def Obligations.FrameIsPacked : Prop :=
  ∀ s : State, ∃ t, exec .vPack s = .next t ∧ t.upc = .vChk ∧
    (∀ j : Fin 5, ([t.frame.b0, t.frame.b1, t.frame.b2, t.frame.b3, t.frame.b4][j.val]).toNat =
      ((List.finRange 8).map (fun k => (s.bits[8 * j.val + k.val]).toNat * 2 ^ (7 - k.val))).sum) ∧
    t.tEntry = s.tEntry ∧ t.tRec = s.tRec ∧ t.idx = s.idx ∧ t.bits = s.bits ∧ t.hum = s.hum ∧ t.temp = s.temp ∧
    IssuedNothing s t ∧ SurroundingsSame s t

/-- 44 R178. `V_CHK`, in every state: a fifth byte equal to the sum of the other four modulo 256 goes to `C_CONV` and writes
only `UPC`; any other raises ChecksumError. -/
def Obligations.ChecksumIsChecked : Prop :=
  ∀ s : State, ∃ t, exec .vChk s = .next t ∧ IssuedNothing s t ∧ SurroundingsSame s t ∧
    (s.frame.b4.toNat = (s.frame.b0.toNat + s.frame.b1.toNat + s.frame.b2.toNat + s.frame.b3.toNat) % 256 →
      t.upc = .cConv ∧ RegistersSame s t) ∧
    (s.frame.b4.toNat ≠ (s.frame.b0.toNat + s.frame.b1.toNat + s.frame.b2.toNat + s.frame.b3.toNat) % 256 →
      t.upc = .errChecksum ∧ RegistersCleared t)

/-- 44 R180. For given data bytes exactly one checksum byte passes, and a change of any single byte of a valid frame makes
it invalid. -/
def Obligations.ChecksumDetectsOneByte : Prop :=
  (∀ a b c d : Byte, ∃! e : Byte, (Frame.mk a b c d e).valid = true) ∧
    (∀ (f : Frame) (x : Byte), f.valid = true →
      (x ≠ f.b0 → ({ f with b0 := x } : Frame).valid = false) ∧
        (x ≠ f.b1 → ({ f with b1 := x } : Frame).valid = false) ∧
        (x ≠ f.b2 → ({ f with b2 := x } : Frame).valid = false) ∧
        (x ≠ f.b3 → ({ f with b3 := x } : Frame).valid = false) ∧
        (x ≠ f.b4 → ({ f with b4 := x } : Frame).valid = false))

/-- 45 R191. `C_CONV`, in every state and for every byte value: the two quantities in tenths, at most 2805, so twelve bits
never overflow; `UPC` goes to `DONE`; the checksum byte and every other register have no part in it. -/
def Obligations.ReadingIsConverted : Prop :=
  ∀ s : State, ∃ t, exec .cConv s = .next t ∧ t.upc = .done ∧
    t.hum.toNat = 10 * s.frame.b0.toNat + s.frame.b1.toNat ∧
    t.temp.toNat = 10 * s.frame.b2.toNat + s.frame.b3.toNat ∧ t.hum.toNat ≤ 2805 ∧ t.temp.toNat ≤ 2805 ∧
    t.busy = false ∧ t.doneFlag = true ∧
    t.tEntry = s.tEntry ∧ t.tRec = s.tRec ∧ t.idx = s.idx ∧ t.bits = s.bits ∧ t.frame = s.frame ∧ IssuedNothing s t ∧
    SurroundingsSame s t

/-- 45 R192. As rational numbers the two registers over ten are the document's humidity and temperature, exactly. -/
def Obligations.ReadingIsExactInTenths : Prop :=
  ∀ s : State, ∃ t, exec .cConv s = .next t ∧
    (t.hum.toNat : ℚ) / 10 = (s.frame.b0.toNat : ℚ) + (s.frame.b1.toNat : ℚ) / 10 ∧
    (t.temp.toNat : ℚ) / 10 = (s.frame.b2.toNat : ℚ) + (s.frame.b3.toNat : ℚ) / 10

/-! ## Rest, START, the host port -/

/-- 46 R202, R203; 60 R227. `IDLE`, `DONE`, `ERR_TIMEOUT` and `ERR_CHECKSUM` complete in every state, issue nothing and
change no register; `STATUS` reads `0x0`, `0x2`, `0x6` and `0xA` in them. -/
def Obligations.RestMicroStatesChangeNothing : Prop :=
  (∀ i ∈ [Instr.idle, .done, .errTimeout, .errChecksum], ∀ s : State, ∃ t, exec i s = .next t ∧ t = s) ∧
    (∀ s : State, (s.upc = .idle → s.status = 0x0#32) ∧ (s.upc = .done → s.status = 0x2#32) ∧
      (s.upc = .errTimeout → s.status = 0x6#32) ∧ (s.upc = .errChecksum → s.status = 0xA#32))

/-- 00 R12; 46 R202, R203; 60 R227. Only an accepted START or reset leaves a micro-state at rest; until then a step, whosever
turn it is, changes no core register, and the core's own turn issues nothing. -/
def Obligations.OnlyStartOrResetLeavesRest : Prop :=
  ∀ s t : State, step s = .next t → s.busy = false →
    (∃ c w, s.turn = .reset c w) ∨ (∃ d, s.turn = .hostWrite 0 d ∧ d[0] = true ∧ t.upc = .hOut) ∨
      (t.upc = s.upc ∧ RegistersSame s t ∧ (s.turn = .core → IssuedNothing s t))

/-- 46 R204. START, a write to `HR0` with bit 0 set, where `BUSY = 0`, in every such state: every datapath register is
cleared, `UPC` is `H_OUT`, `STATUS` reads `0x1`, and nothing of the environment changes. -/
def Obligations.StartBeginsAReadout : Prop :=
  (∀ s : State, s.busy = false ↔ s.upc ∈ [.idle, .done, .errTimeout, .errChecksum]) ∧
    (∀ (s : State) (d : Word), s.turn = .hostWrite 0 d → d[0] = true →
      step s = exec (.start (d.extractLsb' 1 31)) s.popTurn) ∧
    ∀ (s : State) (g : BitVec 31), s.busy = false →
      ∃ t, exec (.start g) s = .next t ∧ t.upc = .hOut ∧ RegistersCleared t ∧ t.status = 0x1#32 ∧ IssuedNothing s t ∧
        SurroundingsSame s t

/-- 46 R205. START while `BUSY = 1` is ignored: the state is as before. -/
def Obligations.StartWhileBusyIsIgnored : Prop :=
  ∀ (s : State) (g : BitVec 31), s.busy = true → exec (.start g) s = .next s

/-- 10 R20, R55; 70 R255. A readout never depends on what a previous one left: two states at rest that differ at most in
`UPC` and the datapath go to the same state by START. -/
def Obligations.StartForgetsHistory : Prop :=
  ∀ (s u : State) (g h : BitVec 31), s.busy = false → u.busy = false → u.trace = s.trace → EnvironmentSame s u →
    SurroundingsSame s u → exec (.start g) s = exec (.start h) u

/-- 10 R32, R42. The flags by micro-state, the only five values `STATUS` can take, and where a Reading is present. -/
def Obligations.StatusByMicroState : Prop :=
  ∀ s : State,
    (s.busy = true ↔ 1 ≤ s.upc.code.toNat ∧ s.upc.code.toNat ≤ 27) ∧
    (s.doneFlag = true ↔ 28 ≤ s.upc.code.toNat) ∧
    s.errCode = (if s.upc.code.toNat = 29 then 1#2 else if s.upc.code.toNat = 30 then 2#2 else 0#2) ∧
    s.status = (if s.upc.code.toNat = 0 then 0x0#32 else if s.upc.code.toNat ≤ 27 then 0x1#32
      else if s.upc.code.toNat = 28 then 0x2#32 else if s.upc.code.toNat = 29 then 0x6#32 else 0xA#32) ∧
    (s.doneFlag = true ∧ s.errCode = 0#2 ↔ s.upc = .done)

/-- 10 R31. The document's state names by micro-state. -/
def Obligations.PhaseByMicroState : Prop :=
  ∀ s : State, s.phase =
    (match s.upc with
    | .idle => .init
    | .hOut | .hHi0 | .hLo | .hHold | .hHi1 | .hRel | .hIn | .hW1T | .hW1Q | .hW1C | .hW2T | .hW2Q | .hW2C | .hW3T
    | .hW3Q | .hW3C => .handshake
    | .sWhT | .sWhQ | .sWhC | .sRec | .sWlT | .sWlQ | .sWlC | .sCls => .sampling s.idx
    | .vPack | .vChk => .validating
    | .cConv => .conversion
    | .done => .done
    | .errTimeout => .timeout
    | .errChecksum => .checksumError)

/-- 10 R41 to R45. The host port, in every state: `CTRL` and every register above 3 read 0, `HUMIDITY` and `TEMPERATURE` hold
their fields right-aligned; a read is answered and has no side effect on the core or its environment; a write to a
register other than 0, or with bit 0 clear, is ignored. -/
def Obligations.HostPortReadsAndWrites : Prop :=
  (∀ s : State, s.hostValue 0 = 0#32 ∧ s.hostValue 1 = s.status ∧ (s.hostValue 2).toNat = s.hum.toNat ∧
      (s.hostValue 3).toNat = s.temp.toNat ∧ ∀ n, 4 ≤ n → s.hostValue n = 0#32) ∧
    (∀ (s : State) (n : Nat), s.turn = .hostRead n → ∃ t, step s = .next t ∧ t.hostRdata = s.hostValue n ∧
      t.upc = s.upc ∧ RegistersSame s t ∧ IssuedNothing s t ∧ t.params = s.params ∧ t.agenda = s.agenda.tail) ∧
    (∀ (s : State) (n : Nat) (d : Word), s.turn = .hostWrite n d → n ≠ 0 ∨ d[0] = false →
      ∃ t, step s = .next t ∧ t.upc = s.upc ∧ RegistersSame s t ∧ IssuedNothing s t ∧ t.hostRdata = s.hostRdata ∧
        t.params = s.params ∧ t.agenda = s.agenda.tail)

/-! ## Sequencing -/

/-- 46 R206. The complete next-state function of `UPC`, turn by turn and code by code. For `S_CLS` it is stated where the
classification has a successor: the default configuration or an elapsed time below the timeout, an `IDX` that names a
cell, a clock not behind `T_REC`. -/
def Obligations.NextStateTable : Prop :=
  (∀ s : State, s.turn = .core →
    (s.upc.code.toNat = 0 ∨ 28 ≤ s.upc.code.toNat → ∃ t, step s = .next t ∧ t.upc = s.upc) ∧
    ((1 ≤ s.upc.code.toNat ∧ s.upc.code.toNat ≤ 7) ∨ s.upc.code.toNat ∈ [8, 11, 14, 17, 20, 21, 25, 27] →
      ∃ t, step s = .next t ∧ t.upc.code.toNat = s.upc.code.toNat + 1) ∧
    (s.upc.code.toNat ∈ [9, 12, 15, 18, 22] → ∃ t op r, step s = .next t ∧ Issued s t op 0#32 (.bit r) ∧
      t.upc.code.toNat = s.upc.code.toNat + (if r then 2 else 1)) ∧
    (s.upc.code.toNat ∈ [10, 13, 16, 19, 23] → ∃ t n, step s = .next t ∧ Issued s t .now 0#32 (.time n) ∧
      if s.tEntry + s.params.tTimeoutUs < n then t.upc.code.toNat = 29
      else t.upc.code.toNat + 1 = s.upc.code.toNat) ∧
    (s.upc.code.toNat = 24 → Classifies s.params (s.servedClock .now 0#32 - s.tRec) → s.idx.toNat ≤ 39 →
      s.tRec ≤ s.clock → ∃ t, step s = .next t ∧ t.upc.code.toNat = if s.idx.toNat = 39 then 25 else 17) ∧
    (s.upc.code.toNat = 26 → ∃ t, step s = .next t ∧ t.upc.code.toNat =
      if s.frame.b4.toNat = (s.frame.b0.toNat + s.frame.b1.toNat + s.frame.b2.toNat + s.frame.b3.toNat) % 256
      then 27 else 30)) ∧
    (∀ (s : State) (d : Word), s.turn = .hostWrite 0 d → d[0] = true →
      s.upc.code.toNat = 0 ∨ 28 ≤ s.upc.code.toNat → ∃ t, step s = .next t ∧ t.upc.code.toNat = 1) ∧
    (∀ (s : State) (n : Nat) (d : Word), s.turn = .hostWrite n d → n ≠ 0 ∨ d[0] = false ∨ s.busy = true →
      ∃ t, step s = .next t ∧ t.upc = s.upc) ∧
    (∀ (s : State) (n : Nat), s.turn = .hostRead n → ∃ t, step s = .next t ∧ t.upc = s.upc) ∧
    (∀ (s t : State) (w : BitVec 36), s.turn = .busWord w → step s = .next t → t.upc = s.upc) ∧
    (∀ (s : State) (c : Bool) (w : Option (Nat × Word)), s.turn = .reset c w →
      ∃ t, step s = .next t ∧ t.upc.code.toNat = 0)

/-- 10 R29. Who writes each register, over every step of the machine: its own micro-operations, and otherwise only reset,
START and error entry, which clear it. -/
def Obligations.RegisterWriters : Prop :=
  ∀ s t : State, step s = .next t →
    (t.upc ≠ s.upc → s.turn = .core ∨ ClearingEvent s t) ∧
    (ClearingEvent s t → RegistersCleared t) ∧
    (¬ClearingEvent s t →
      (t.tEntry ≠ s.tEntry → s.turn = .core ∧ s.upc ∈ [.hW1T, .hW2T, .hW3T, .sWhT, .sWlT]) ∧
      (t.tRec ≠ s.tRec → s.turn = .core ∧ s.upc = .sRec) ∧
      (t.idx ≠ s.idx → s.turn = .core ∧ s.upc = .sCls) ∧
      (∀ i : Fin 40, t.bits[i.val] ≠ s.bits[i.val] → s.turn = .core ∧ s.upc = .sCls ∧ i.val = s.idx.toNat) ∧
      (t.frame ≠ s.frame → s.turn = .core ∧ s.upc = .vPack) ∧
      (t.hum ≠ s.hum ∨ t.temp ≠ s.temp → s.turn = .core ∧ s.upc = .cConv))

/-- 46 R201, R12, from the 40 bits on: if the fifth packed byte is the sum of the others modulo 256 the run ends in three
steps in `DONE` with the conversion of the bytes, and if it is not, in two steps in `ERR_CHECKSUM` with no Reading. -/
def Obligations.FortyBitsDecideTheOutcome : Prop :=
  ∀ s : State, s.upc = .vPack → s.agenda = [] → s.hum = 0#12 → s.temp = 0#12 →
    ∃ t, t.trace = s.trace ∧
      (if (packFrame s.bits).b4.toNat = ((packFrame s.bits).b0.toNat + (packFrame s.bits).b1.toNat +
          (packFrame s.bits).b2.toNat + (packFrame s.bits).b3.toNat) % 256 then
        run 3 s = .next t ∧ t.upc = .done ∧ t.hum.toNat = 10 * (packFrame s.bits).b0.toNat + (packFrame s.bits).b1.toNat ∧
          t.temp.toNat = 10 * (packFrame s.bits).b2.toNat + (packFrame s.bits).b3.toNat
      else run 2 s = .next t ∧ t.upc = .errChecksum ∧ t.hum = 0#12 ∧ t.temp = 0#12)

/-- 46 R201, R208; 00 R12; 40 R125. A whole readout, from START in any state at rest, with any numbers of polls in its 83
level-waits (the environment's moves are the script, log 3): if every wait succeeds and every bit is classified, the run
issues `7 + 2*S + 80` operations and ends, as the fifth byte decides, after the step of START and `7 + 2*S + 80 + 3` more
in `DONE` with the conversion of the packed bits, or one step earlier, that of `V_CHK`, in `ERR_CHECKSUM` with no Reading;
the pin is left in input mode with its latch high. -/
def Obligations.WholeReadout : Prop :=
  ∀ (s : State) (d : Word) (r : ReadoutStim) (v : Vector Bool 40) (rest : List EnvMove),
    s.busy = false → s.agenda = [.hostWrite 0 d] → d[0] = true →
    (∀ b ∈ r.bits, Classifies s.params b.elapsed) → s.script = r.moves ++ rest →
    r.Succeeds s.params.tTimeoutUs → v.toList = r.sampled s.params.tThresholdUs →
    ∃ t, t.trace.length = s.trace.length + (7 + 2 * r.queries + 80) ∧ t.script = rest ∧ t.pinMode = .input ∧
      t.pinOut = .high ∧
      (if (packFrame v).b4.toNat = ((packFrame v).b0.toNat + (packFrame v).b1.toNat + (packFrame v).b2.toNat +
          (packFrame v).b3.toNat) % 256 then
        run (1 + (7 + 2 * r.queries + 80 + 3)) s = .next t ∧ t.upc = .done ∧
          t.hum.toNat = 10 * (packFrame v).b0.toNat + (packFrame v).b1.toNat ∧
          t.temp.toNat = 10 * (packFrame v).b2.toNat + (packFrame v).b3.toNat
      else run (1 + (7 + 2 * r.queries + 80 + 2)) s = .next t ∧ t.upc = .errChecksum ∧ t.hum = 0#12 ∧ t.temp = 0#12)

/-! ## Progress -/

/-- 40 R123, R126; 41 R134; 46 R207. What premise (b) says: time moves where, for every bound, a core (here the bus) that
keeps issuing `NOW` receives a response above it. And what both premises give, in every environment and whatever is
answered. Every level-wait ends, wherever in it the core stands: in success with no register but `T_ENTRY` and `UPC`
written, or in Timeout; the premises hold on. So every readout ends, wherever in it the core stands: it reaches a terminal
micro-state, or, where `ELAPSED_VIOLATION = fault`, a long elapsed time in `S_CLS`. -/
def Obligations.ProgressEndsEveryWaitAndReadout : Prop :=
  (∀ s : State, TimeMoves s ↔ ∀ bound, ∃ n t r,
      run (n + 1) { s with agenda := List.replicate (n + 1) (.busWord 0x900000000#36) } = .next t ∧
        t.trace.head?.map (·.rsp) = some (.time r) ∧ bound < r) ∧
    (∀ w ∈ waitInstances, ∀ s : State, s.upc ∈ [w.entry, w.query, w.check] → s.agenda = [] → Progress s →
      ∃ k t, run k s = .next t ∧
        (t.upc = w.success ∧ t.tRec = s.tRec ∧ t.idx = s.idx ∧ t.bits = s.bits ∧ t.frame = s.frame ∧ t.hum = s.hum ∧
            t.temp = s.temp ∨
          t.upc = .errTimeout ∧ RegistersCleared t) ∧
        PinSame s t ∧ SurroundingsSame s t ∧ Progress t) ∧
    (∀ s : State, s.busy = true → s.agenda = [] → CountOk s → ClockOk s → Progress s →
      ∃ k t, run k s = .next t ∧
        (t.upc ∈ [.done, .errTimeout, .errChecksum] ∨
          s.params.elapsedViolation = .fault ∧ t.upc = .sCls ∧ step t = .fault .elapsedViolation))

/-! ## Invariants every step keeps, from every state that meets them -/

/-- 40 R120. No recorded timestamp is ahead of the clock. -/
def Obligations.ClockInvariantKept : Prop := ∀ s t : State, ClockOk s → step s = .next t → ClockOk t

/-- 10 R23, 20 R61. `IDX` stays in the range its micro-state allows. -/
def Obligations.CountInvariantKept : Prop := ∀ s t : State, CountOk s → step s = .next t → CountOk t

/-- 10 R24, R25. Cells at and above `IDX` stay unwritten, and `FRAME` is 0 or the packed bits as the micro-state says. -/
def Obligations.CaptureInvariantKept : Prop :=
  ∀ s t : State, CountOk s → CaptureOk s → step s = .next t → CaptureOk t

/-- 10 R26, R43; 46 R201. `HUM` and `TEMP` are 0 outside `DONE`, and in `DONE` the conversion of a valid frame. -/
def Obligations.ReadingInvariantKept : Prop := ∀ s t : State, ReadingOk s → step s = .next t → ReadingOk t

/-- 42 R151; 60 R226; 70 R250. Timestamps are 0 at rest but in `DONE`, and `T_REC` is 0 through the handshake. -/
def Obligations.RestInvariantKept : Prop := ∀ s t : State, RestOk s → step s = .next t → RestOk t

/-- 40 R125. Mode discipline, where only the core issues capability operations (log 6): every `DRIVE_*` falls in output
mode, every query in input mode, and every exit after `H_IN` leaves input mode and a high latch. -/
def Obligations.ModeDisciplineKept : Prop :=
  (∀ s t : State, CoreOnly s → PinOk s → step s = .next t → CoreOnly t ∧ PinOk t) ∧
    (∀ (s : State) (a : Word), PinOk s →
      (issuedBy s.params s.upc = some (.driveHigh, a) ∨ issuedBy s.params s.upc = some (.driveLow, a) →
        s.pinMode = .output) ∧
      (issuedBy s.params s.upc = some (.queryHigh, a) ∨ issuedBy s.params s.upc = some (.queryLow, a) →
        s.pinMode = .input) ∧
      (28 ≤ s.upc.code.toNat → s.pinMode = .input ∧ s.pinOut = .high))

/-- 40 R112, R114, R115. In output mode the line has the latched level, whoever acts. -/
def Obligations.DrivenLineInvariantKept : Prop := ∀ s t : State, LineOk s → step s = .next t → LineOk t

/-- 40 R120, 20 R70. The timestamps returned by successive `NOW`s never decrease. -/
def Obligations.TimestampsNeverDecrease : Prop := ∀ s t : State, TraceOk s → step s = .next t → TraceOk t

/-- The state after reset meets every invariant of this file. -/
def Obligations.ResetMeetsTheInvariants : Prop :=
  ClockOk State.reset ∧ CountOk State.reset ∧ CaptureOk State.reset ∧ ReadingOk State.reset ∧ RestOk State.reset ∧
    CoreOnly State.reset ∧ PinOk State.reset ∧ LineOk State.reset ∧ TraceOk State.reset

/-- 00 R5, log 12. No step writes the parameters, and the trace only grows. -/
def Obligations.ParametersAreConstant : Prop :=
  ∀ s t : State, step s = .next t → t.params = s.params ∧ s.trace <:+ t.trace

/-- 20 R61; 40 R120; 43 R165; 60 R220. A machine whose counter and clock are in order, and whose bus carries the core's words
only, never stops in the default configuration; with `ELAPSED_VIOLATION = fault` it can stop in `S_CLS` on a long elapsed
time and nowhere else. -/
def Obligations.OnlyTheParameterCanStopTheMachine : Prop :=
  ∀ s : State, CountOk s → ClockOk s → CoreOnly s →
    (s.params.elapsedViolation = .classify → ∃ t, step s = .next t) ∧
    ((∃ t, step s = .next t) ∨
      (s.turn = .core ∧ s.upc = .sCls ∧ step s = .fault .elapsedViolation ∧
        s.params.tTimeoutUs ≤ s.servedClock .now 0#32 - s.tRec))
end

