-- ==== Sys2Proof/Laws/State.lean ====
section
/-! SUPPORT. What each named update leaves in each field of the state: one lemma per field per update, true by rfl, so
that no later proof unfolds a record update. -/

namespace Sys2Proof.Machine

variable (s : State)

/-! ### environment -/

@[simp] theorem State.environment_upc (op : CapOp) (arg : Word) : (s.environment op arg).upc = s.upc := rfl
@[simp] theorem State.environment_tEntry (op : CapOp) (arg : Word) : (s.environment op arg).tEntry = s.tEntry := rfl
@[simp] theorem State.environment_tRec (op : CapOp) (arg : Word) : (s.environment op arg).tRec = s.tRec := rfl
@[simp] theorem State.environment_idx (op : CapOp) (arg : Word) : (s.environment op arg).idx = s.idx := rfl
@[simp] theorem State.environment_bits (op : CapOp) (arg : Word) : (s.environment op arg).bits = s.bits := rfl
@[simp] theorem State.environment_frame (op : CapOp) (arg : Word) : (s.environment op arg).frame = s.frame := rfl
@[simp] theorem State.environment_hum (op : CapOp) (arg : Word) : (s.environment op arg).hum = s.hum := rfl
@[simp] theorem State.environment_temp (op : CapOp) (arg : Word) : (s.environment op arg).temp = s.temp := rfl
@[simp] theorem State.environment_pinMode (op : CapOp) (arg : Word) :
    (s.environment op arg).pinMode = s.servedMode op := rfl
@[simp] theorem State.environment_pinOut (op : CapOp) (arg : Word) :
    (s.environment op arg).pinOut = s.servedOut op := rfl
@[simp] theorem State.environment_line (op : CapOp) (arg : Word) : (s.environment op arg).line = s.servedLine op := rfl
@[simp] theorem State.environment_clock (op : CapOp) (arg : Word) :
    (s.environment op arg).clock = s.servedClock op arg := rfl
@[simp] theorem State.environment_params (op : CapOp) (arg : Word) : (s.environment op arg).params = s.params := rfl
@[simp] theorem State.environment_script (op : CapOp) (arg : Word) :
    (s.environment op arg).script = s.script.tail := rfl
@[simp] theorem State.environment_lasting (op : CapOp) (arg : Word) :
    (s.environment op arg).lasting = s.lasting := rfl
@[simp] theorem State.environment_envTick (op : CapOp) (arg : Word) :
    (s.environment op arg).envTick = s.envTick + 1 := rfl
@[simp] theorem State.environment_trace (op : CapOp) (arg : Word) : (s.environment op arg).trace = s.trace := rfl
@[simp] theorem State.environment_agenda (op : CapOp) (arg : Word) : (s.environment op arg).agenda = s.agenda := rfl
@[simp] theorem State.environment_hostRdata (op : CapOp) (arg : Word) :
    (s.environment op arg).hostRdata = s.hostRdata := rfl

/-! ### record -/

@[simp] theorem State.record_upc (e : TraceEntry) : (s.record e).upc = s.upc := rfl
@[simp] theorem State.record_tEntry (e : TraceEntry) : (s.record e).tEntry = s.tEntry := rfl
@[simp] theorem State.record_tRec (e : TraceEntry) : (s.record e).tRec = s.tRec := rfl
@[simp] theorem State.record_idx (e : TraceEntry) : (s.record e).idx = s.idx := rfl
@[simp] theorem State.record_bits (e : TraceEntry) : (s.record e).bits = s.bits := rfl
@[simp] theorem State.record_frame (e : TraceEntry) : (s.record e).frame = s.frame := rfl
@[simp] theorem State.record_hum (e : TraceEntry) : (s.record e).hum = s.hum := rfl
@[simp] theorem State.record_temp (e : TraceEntry) : (s.record e).temp = s.temp := rfl
@[simp] theorem State.record_pinMode (e : TraceEntry) : (s.record e).pinMode = s.pinMode := rfl
@[simp] theorem State.record_pinOut (e : TraceEntry) : (s.record e).pinOut = s.pinOut := rfl
@[simp] theorem State.record_line (e : TraceEntry) : (s.record e).line = s.line := rfl
@[simp] theorem State.record_clock (e : TraceEntry) : (s.record e).clock = s.clock := rfl
@[simp] theorem State.record_params (e : TraceEntry) : (s.record e).params = s.params := rfl
@[simp] theorem State.record_script (e : TraceEntry) : (s.record e).script = s.script := rfl
@[simp] theorem State.record_lasting (e : TraceEntry) : (s.record e).lasting = s.lasting := rfl
@[simp] theorem State.record_envTick (e : TraceEntry) : (s.record e).envTick = s.envTick := rfl
@[simp] theorem State.record_trace (e : TraceEntry) : (s.record e).trace = e :: s.trace := rfl
@[simp] theorem State.record_agenda (e : TraceEntry) : (s.record e).agenda = s.agenda := rfl
@[simp] theorem State.record_hostRdata (e : TraceEntry) : (s.record e).hostRdata = s.hostRdata := rfl

/-! ### issue -/

@[simp] theorem State.issue_upc (op : CapOp) (arg : Word) : (s.issue op arg).upc = s.upc := rfl
@[simp] theorem State.issue_tEntry (op : CapOp) (arg : Word) : (s.issue op arg).tEntry = s.tEntry := rfl
@[simp] theorem State.issue_tRec (op : CapOp) (arg : Word) : (s.issue op arg).tRec = s.tRec := rfl
@[simp] theorem State.issue_idx (op : CapOp) (arg : Word) : (s.issue op arg).idx = s.idx := rfl
@[simp] theorem State.issue_bits (op : CapOp) (arg : Word) : (s.issue op arg).bits = s.bits := rfl
@[simp] theorem State.issue_frame (op : CapOp) (arg : Word) : (s.issue op arg).frame = s.frame := rfl
@[simp] theorem State.issue_hum (op : CapOp) (arg : Word) : (s.issue op arg).hum = s.hum := rfl
@[simp] theorem State.issue_temp (op : CapOp) (arg : Word) : (s.issue op arg).temp = s.temp := rfl
@[simp] theorem State.issue_pinMode (op : CapOp) (arg : Word) : (s.issue op arg).pinMode = s.servedMode op := rfl
@[simp] theorem State.issue_pinOut (op : CapOp) (arg : Word) : (s.issue op arg).pinOut = s.servedOut op := rfl
@[simp] theorem State.issue_line (op : CapOp) (arg : Word) : (s.issue op arg).line = s.servedLine op := rfl
@[simp] theorem State.issue_clock (op : CapOp) (arg : Word) : (s.issue op arg).clock = s.servedClock op arg := rfl
@[simp] theorem State.issue_params (op : CapOp) (arg : Word) : (s.issue op arg).params = s.params := rfl
@[simp] theorem State.issue_script (op : CapOp) (arg : Word) : (s.issue op arg).script = s.script.tail := rfl
@[simp] theorem State.issue_lasting (op : CapOp) (arg : Word) : (s.issue op arg).lasting = s.lasting := rfl
@[simp] theorem State.issue_envTick (op : CapOp) (arg : Word) : (s.issue op arg).envTick = s.envTick + 1 := rfl
@[simp] theorem State.issue_trace (op : CapOp) (arg : Word) :
    (s.issue op arg).trace = { micro := s.upc, op := op, arg := arg, rsp := s.responseOf op arg } :: s.trace := rfl
@[simp] theorem State.issue_agenda (op : CapOp) (arg : Word) : (s.issue op arg).agenda = s.agenda := rfl
@[simp] theorem State.issue_hostRdata (op : CapOp) (arg : Word) : (s.issue op arg).hostRdata = s.hostRdata := rfl

/-! ### setUpc -/

@[simp] theorem State.setUpc_upc (m : MicroState) : (s.setUpc m).upc = m := rfl
@[simp] theorem State.setUpc_tEntry (m : MicroState) : (s.setUpc m).tEntry = s.tEntry := rfl
@[simp] theorem State.setUpc_tRec (m : MicroState) : (s.setUpc m).tRec = s.tRec := rfl
@[simp] theorem State.setUpc_idx (m : MicroState) : (s.setUpc m).idx = s.idx := rfl
@[simp] theorem State.setUpc_bits (m : MicroState) : (s.setUpc m).bits = s.bits := rfl
@[simp] theorem State.setUpc_frame (m : MicroState) : (s.setUpc m).frame = s.frame := rfl
@[simp] theorem State.setUpc_hum (m : MicroState) : (s.setUpc m).hum = s.hum := rfl
@[simp] theorem State.setUpc_temp (m : MicroState) : (s.setUpc m).temp = s.temp := rfl
@[simp] theorem State.setUpc_pinMode (m : MicroState) : (s.setUpc m).pinMode = s.pinMode := rfl
@[simp] theorem State.setUpc_pinOut (m : MicroState) : (s.setUpc m).pinOut = s.pinOut := rfl
@[simp] theorem State.setUpc_line (m : MicroState) : (s.setUpc m).line = s.line := rfl
@[simp] theorem State.setUpc_clock (m : MicroState) : (s.setUpc m).clock = s.clock := rfl
@[simp] theorem State.setUpc_params (m : MicroState) : (s.setUpc m).params = s.params := rfl
@[simp] theorem State.setUpc_script (m : MicroState) : (s.setUpc m).script = s.script := rfl
@[simp] theorem State.setUpc_lasting (m : MicroState) : (s.setUpc m).lasting = s.lasting := rfl
@[simp] theorem State.setUpc_envTick (m : MicroState) : (s.setUpc m).envTick = s.envTick := rfl
@[simp] theorem State.setUpc_trace (m : MicroState) : (s.setUpc m).trace = s.trace := rfl
@[simp] theorem State.setUpc_agenda (m : MicroState) : (s.setUpc m).agenda = s.agenda := rfl
@[simp] theorem State.setUpc_hostRdata (m : MicroState) : (s.setUpc m).hostRdata = s.hostRdata := rfl

/-! ### setEntry -/

@[simp] theorem State.setEntry_upc (t : Nat) : (s.setEntry t).upc = s.upc := rfl
@[simp] theorem State.setEntry_tEntry (t : Nat) : (s.setEntry t).tEntry = t := rfl
@[simp] theorem State.setEntry_tRec (t : Nat) : (s.setEntry t).tRec = s.tRec := rfl
@[simp] theorem State.setEntry_idx (t : Nat) : (s.setEntry t).idx = s.idx := rfl
@[simp] theorem State.setEntry_bits (t : Nat) : (s.setEntry t).bits = s.bits := rfl
@[simp] theorem State.setEntry_frame (t : Nat) : (s.setEntry t).frame = s.frame := rfl
@[simp] theorem State.setEntry_hum (t : Nat) : (s.setEntry t).hum = s.hum := rfl
@[simp] theorem State.setEntry_temp (t : Nat) : (s.setEntry t).temp = s.temp := rfl
@[simp] theorem State.setEntry_pinMode (t : Nat) : (s.setEntry t).pinMode = s.pinMode := rfl
@[simp] theorem State.setEntry_pinOut (t : Nat) : (s.setEntry t).pinOut = s.pinOut := rfl
@[simp] theorem State.setEntry_line (t : Nat) : (s.setEntry t).line = s.line := rfl
@[simp] theorem State.setEntry_clock (t : Nat) : (s.setEntry t).clock = s.clock := rfl
@[simp] theorem State.setEntry_params (t : Nat) : (s.setEntry t).params = s.params := rfl
@[simp] theorem State.setEntry_script (t : Nat) : (s.setEntry t).script = s.script := rfl
@[simp] theorem State.setEntry_lasting (t : Nat) : (s.setEntry t).lasting = s.lasting := rfl
@[simp] theorem State.setEntry_envTick (t : Nat) : (s.setEntry t).envTick = s.envTick := rfl
@[simp] theorem State.setEntry_trace (t : Nat) : (s.setEntry t).trace = s.trace := rfl
@[simp] theorem State.setEntry_agenda (t : Nat) : (s.setEntry t).agenda = s.agenda := rfl
@[simp] theorem State.setEntry_hostRdata (t : Nat) : (s.setEntry t).hostRdata = s.hostRdata := rfl

/-! ### setRec -/

@[simp] theorem State.setRec_upc (t : Nat) : (s.setRec t).upc = s.upc := rfl
@[simp] theorem State.setRec_tEntry (t : Nat) : (s.setRec t).tEntry = s.tEntry := rfl
@[simp] theorem State.setRec_tRec (t : Nat) : (s.setRec t).tRec = t := rfl
@[simp] theorem State.setRec_idx (t : Nat) : (s.setRec t).idx = s.idx := rfl
@[simp] theorem State.setRec_bits (t : Nat) : (s.setRec t).bits = s.bits := rfl
@[simp] theorem State.setRec_frame (t : Nat) : (s.setRec t).frame = s.frame := rfl
@[simp] theorem State.setRec_hum (t : Nat) : (s.setRec t).hum = s.hum := rfl
@[simp] theorem State.setRec_temp (t : Nat) : (s.setRec t).temp = s.temp := rfl
@[simp] theorem State.setRec_pinMode (t : Nat) : (s.setRec t).pinMode = s.pinMode := rfl
@[simp] theorem State.setRec_pinOut (t : Nat) : (s.setRec t).pinOut = s.pinOut := rfl
@[simp] theorem State.setRec_line (t : Nat) : (s.setRec t).line = s.line := rfl
@[simp] theorem State.setRec_clock (t : Nat) : (s.setRec t).clock = s.clock := rfl
@[simp] theorem State.setRec_params (t : Nat) : (s.setRec t).params = s.params := rfl
@[simp] theorem State.setRec_script (t : Nat) : (s.setRec t).script = s.script := rfl
@[simp] theorem State.setRec_lasting (t : Nat) : (s.setRec t).lasting = s.lasting := rfl
@[simp] theorem State.setRec_envTick (t : Nat) : (s.setRec t).envTick = s.envTick := rfl
@[simp] theorem State.setRec_trace (t : Nat) : (s.setRec t).trace = s.trace := rfl
@[simp] theorem State.setRec_agenda (t : Nat) : (s.setRec t).agenda = s.agenda := rfl
@[simp] theorem State.setRec_hostRdata (t : Nat) : (s.setRec t).hostRdata = s.hostRdata := rfl

/-! ### storeBit -/

@[simp] theorem State.storeBit_upc (b : Bool) : (s.storeBit b).upc = s.upc := rfl
@[simp] theorem State.storeBit_tEntry (b : Bool) : (s.storeBit b).tEntry = s.tEntry := rfl
@[simp] theorem State.storeBit_tRec (b : Bool) : (s.storeBit b).tRec = s.tRec := rfl
@[simp] theorem State.storeBit_idx (b : Bool) : (s.storeBit b).idx = s.idx + 1#6 := rfl
@[simp] theorem State.storeBit_bits (b : Bool) : (s.storeBit b).bits = s.bits.setIfInBounds s.idx.toNat b := rfl
@[simp] theorem State.storeBit_frame (b : Bool) : (s.storeBit b).frame = s.frame := rfl
@[simp] theorem State.storeBit_hum (b : Bool) : (s.storeBit b).hum = s.hum := rfl
@[simp] theorem State.storeBit_temp (b : Bool) : (s.storeBit b).temp = s.temp := rfl
@[simp] theorem State.storeBit_pinMode (b : Bool) : (s.storeBit b).pinMode = s.pinMode := rfl
@[simp] theorem State.storeBit_pinOut (b : Bool) : (s.storeBit b).pinOut = s.pinOut := rfl
@[simp] theorem State.storeBit_line (b : Bool) : (s.storeBit b).line = s.line := rfl
@[simp] theorem State.storeBit_clock (b : Bool) : (s.storeBit b).clock = s.clock := rfl
@[simp] theorem State.storeBit_params (b : Bool) : (s.storeBit b).params = s.params := rfl
@[simp] theorem State.storeBit_script (b : Bool) : (s.storeBit b).script = s.script := rfl
@[simp] theorem State.storeBit_lasting (b : Bool) : (s.storeBit b).lasting = s.lasting := rfl
@[simp] theorem State.storeBit_envTick (b : Bool) : (s.storeBit b).envTick = s.envTick := rfl
@[simp] theorem State.storeBit_trace (b : Bool) : (s.storeBit b).trace = s.trace := rfl
@[simp] theorem State.storeBit_agenda (b : Bool) : (s.storeBit b).agenda = s.agenda := rfl
@[simp] theorem State.storeBit_hostRdata (b : Bool) : (s.storeBit b).hostRdata = s.hostRdata := rfl

/-! ### setFrame -/

@[simp] theorem State.setFrame_upc (f : Frame) : (s.setFrame f).upc = s.upc := rfl
@[simp] theorem State.setFrame_tEntry (f : Frame) : (s.setFrame f).tEntry = s.tEntry := rfl
@[simp] theorem State.setFrame_tRec (f : Frame) : (s.setFrame f).tRec = s.tRec := rfl
@[simp] theorem State.setFrame_idx (f : Frame) : (s.setFrame f).idx = s.idx := rfl
@[simp] theorem State.setFrame_bits (f : Frame) : (s.setFrame f).bits = s.bits := rfl
@[simp] theorem State.setFrame_frame (f : Frame) : (s.setFrame f).frame = f := rfl
@[simp] theorem State.setFrame_hum (f : Frame) : (s.setFrame f).hum = s.hum := rfl
@[simp] theorem State.setFrame_temp (f : Frame) : (s.setFrame f).temp = s.temp := rfl
@[simp] theorem State.setFrame_pinMode (f : Frame) : (s.setFrame f).pinMode = s.pinMode := rfl
@[simp] theorem State.setFrame_pinOut (f : Frame) : (s.setFrame f).pinOut = s.pinOut := rfl
@[simp] theorem State.setFrame_line (f : Frame) : (s.setFrame f).line = s.line := rfl
@[simp] theorem State.setFrame_clock (f : Frame) : (s.setFrame f).clock = s.clock := rfl
@[simp] theorem State.setFrame_params (f : Frame) : (s.setFrame f).params = s.params := rfl
@[simp] theorem State.setFrame_script (f : Frame) : (s.setFrame f).script = s.script := rfl
@[simp] theorem State.setFrame_lasting (f : Frame) : (s.setFrame f).lasting = s.lasting := rfl
@[simp] theorem State.setFrame_envTick (f : Frame) : (s.setFrame f).envTick = s.envTick := rfl
@[simp] theorem State.setFrame_trace (f : Frame) : (s.setFrame f).trace = s.trace := rfl
@[simp] theorem State.setFrame_agenda (f : Frame) : (s.setFrame f).agenda = s.agenda := rfl
@[simp] theorem State.setFrame_hostRdata (f : Frame) : (s.setFrame f).hostRdata = s.hostRdata := rfl

/-! ### setReading -/

@[simp] theorem State.setReading_upc (h t : Tenths) : (s.setReading h t).upc = s.upc := rfl
@[simp] theorem State.setReading_tEntry (h t : Tenths) : (s.setReading h t).tEntry = s.tEntry := rfl
@[simp] theorem State.setReading_tRec (h t : Tenths) : (s.setReading h t).tRec = s.tRec := rfl
@[simp] theorem State.setReading_idx (h t : Tenths) : (s.setReading h t).idx = s.idx := rfl
@[simp] theorem State.setReading_bits (h t : Tenths) : (s.setReading h t).bits = s.bits := rfl
@[simp] theorem State.setReading_frame (h t : Tenths) : (s.setReading h t).frame = s.frame := rfl
@[simp] theorem State.setReading_hum (h t : Tenths) : (s.setReading h t).hum = h := rfl
@[simp] theorem State.setReading_temp (h t : Tenths) : (s.setReading h t).temp = t := rfl
@[simp] theorem State.setReading_pinMode (h t : Tenths) : (s.setReading h t).pinMode = s.pinMode := rfl
@[simp] theorem State.setReading_pinOut (h t : Tenths) : (s.setReading h t).pinOut = s.pinOut := rfl
@[simp] theorem State.setReading_line (h t : Tenths) : (s.setReading h t).line = s.line := rfl
@[simp] theorem State.setReading_clock (h t : Tenths) : (s.setReading h t).clock = s.clock := rfl
@[simp] theorem State.setReading_params (h t : Tenths) : (s.setReading h t).params = s.params := rfl
@[simp] theorem State.setReading_script (h t : Tenths) : (s.setReading h t).script = s.script := rfl
@[simp] theorem State.setReading_lasting (h t : Tenths) : (s.setReading h t).lasting = s.lasting := rfl
@[simp] theorem State.setReading_envTick (h t : Tenths) : (s.setReading h t).envTick = s.envTick := rfl
@[simp] theorem State.setReading_trace (h t : Tenths) : (s.setReading h t).trace = s.trace := rfl
@[simp] theorem State.setReading_agenda (h t : Tenths) : (s.setReading h t).agenda = s.agenda := rfl
@[simp] theorem State.setReading_hostRdata (h t : Tenths) : (s.setReading h t).hostRdata = s.hostRdata := rfl

/-! ### clearDatapath -/

@[simp] theorem State.clearDatapath_upc : s.clearDatapath.upc = s.upc := rfl
@[simp] theorem State.clearDatapath_tEntry : s.clearDatapath.tEntry = 0 := rfl
@[simp] theorem State.clearDatapath_tRec : s.clearDatapath.tRec = 0 := rfl
@[simp] theorem State.clearDatapath_idx : s.clearDatapath.idx = 0#6 := rfl
@[simp] theorem State.clearDatapath_bits : s.clearDatapath.bits = Vector.replicate 40 false := rfl
@[simp] theorem State.clearDatapath_frame : s.clearDatapath.frame = Frame.zero := rfl
@[simp] theorem State.clearDatapath_hum : s.clearDatapath.hum = 0#12 := rfl
@[simp] theorem State.clearDatapath_temp : s.clearDatapath.temp = 0#12 := rfl
@[simp] theorem State.clearDatapath_pinMode : s.clearDatapath.pinMode = s.pinMode := rfl
@[simp] theorem State.clearDatapath_pinOut : s.clearDatapath.pinOut = s.pinOut := rfl
@[simp] theorem State.clearDatapath_line : s.clearDatapath.line = s.line := rfl
@[simp] theorem State.clearDatapath_clock : s.clearDatapath.clock = s.clock := rfl
@[simp] theorem State.clearDatapath_params : s.clearDatapath.params = s.params := rfl
@[simp] theorem State.clearDatapath_script : s.clearDatapath.script = s.script := rfl
@[simp] theorem State.clearDatapath_lasting : s.clearDatapath.lasting = s.lasting := rfl
@[simp] theorem State.clearDatapath_envTick : s.clearDatapath.envTick = s.envTick := rfl
@[simp] theorem State.clearDatapath_trace : s.clearDatapath.trace = s.trace := rfl
@[simp] theorem State.clearDatapath_agenda : s.clearDatapath.agenda = s.agenda := rfl
@[simp] theorem State.clearDatapath_hostRdata : s.clearDatapath.hostRdata = s.hostRdata := rfl

/-! ### raiseError -/

@[simp] theorem State.raiseError_upc (e : ErrorKind) : (s.raiseError e).upc = e.microState := rfl
@[simp] theorem State.raiseError_tEntry (e : ErrorKind) : (s.raiseError e).tEntry = 0 := rfl
@[simp] theorem State.raiseError_tRec (e : ErrorKind) : (s.raiseError e).tRec = 0 := rfl
@[simp] theorem State.raiseError_idx (e : ErrorKind) : (s.raiseError e).idx = 0#6 := rfl
@[simp] theorem State.raiseError_bits (e : ErrorKind) : (s.raiseError e).bits = Vector.replicate 40 false := rfl
@[simp] theorem State.raiseError_frame (e : ErrorKind) : (s.raiseError e).frame = Frame.zero := rfl
@[simp] theorem State.raiseError_hum (e : ErrorKind) : (s.raiseError e).hum = 0#12 := rfl
@[simp] theorem State.raiseError_temp (e : ErrorKind) : (s.raiseError e).temp = 0#12 := rfl
@[simp] theorem State.raiseError_pinMode (e : ErrorKind) : (s.raiseError e).pinMode = s.pinMode := rfl
@[simp] theorem State.raiseError_pinOut (e : ErrorKind) : (s.raiseError e).pinOut = s.pinOut := rfl
@[simp] theorem State.raiseError_line (e : ErrorKind) : (s.raiseError e).line = s.line := rfl
@[simp] theorem State.raiseError_clock (e : ErrorKind) : (s.raiseError e).clock = s.clock := rfl
@[simp] theorem State.raiseError_params (e : ErrorKind) : (s.raiseError e).params = s.params := rfl
@[simp] theorem State.raiseError_script (e : ErrorKind) : (s.raiseError e).script = s.script := rfl
@[simp] theorem State.raiseError_lasting (e : ErrorKind) : (s.raiseError e).lasting = s.lasting := rfl
@[simp] theorem State.raiseError_envTick (e : ErrorKind) : (s.raiseError e).envTick = s.envTick := rfl
@[simp] theorem State.raiseError_trace (e : ErrorKind) : (s.raiseError e).trace = s.trace := rfl
@[simp] theorem State.raiseError_agenda (e : ErrorKind) : (s.raiseError e).agenda = s.agenda := rfl
@[simp] theorem State.raiseError_hostRdata (e : ErrorKind) : (s.raiseError e).hostRdata = s.hostRdata := rfl

/-! ### beginReadout -/

@[simp] theorem State.beginReadout_upc : s.beginReadout.upc = .hOut := rfl
@[simp] theorem State.beginReadout_tEntry : s.beginReadout.tEntry = 0 := rfl
@[simp] theorem State.beginReadout_tRec : s.beginReadout.tRec = 0 := rfl
@[simp] theorem State.beginReadout_idx : s.beginReadout.idx = 0#6 := rfl
@[simp] theorem State.beginReadout_bits : s.beginReadout.bits = Vector.replicate 40 false := rfl
@[simp] theorem State.beginReadout_frame : s.beginReadout.frame = Frame.zero := rfl
@[simp] theorem State.beginReadout_hum : s.beginReadout.hum = 0#12 := rfl
@[simp] theorem State.beginReadout_temp : s.beginReadout.temp = 0#12 := rfl
@[simp] theorem State.beginReadout_pinMode : s.beginReadout.pinMode = s.pinMode := rfl
@[simp] theorem State.beginReadout_pinOut : s.beginReadout.pinOut = s.pinOut := rfl
@[simp] theorem State.beginReadout_line : s.beginReadout.line = s.line := rfl
@[simp] theorem State.beginReadout_clock : s.beginReadout.clock = s.clock := rfl
@[simp] theorem State.beginReadout_params : s.beginReadout.params = s.params := rfl
@[simp] theorem State.beginReadout_script : s.beginReadout.script = s.script := rfl
@[simp] theorem State.beginReadout_lasting : s.beginReadout.lasting = s.lasting := rfl
@[simp] theorem State.beginReadout_envTick : s.beginReadout.envTick = s.envTick := rfl
@[simp] theorem State.beginReadout_trace : s.beginReadout.trace = s.trace := rfl
@[simp] theorem State.beginReadout_agenda : s.beginReadout.agenda = s.agenda := rfl
@[simp] theorem State.beginReadout_hostRdata : s.beginReadout.hostRdata = s.hostRdata := rfl

/-! ### resetCore -/

@[simp] theorem State.resetCore_upc : s.resetCore.upc = .idle := rfl
@[simp] theorem State.resetCore_tEntry : s.resetCore.tEntry = 0 := rfl
@[simp] theorem State.resetCore_tRec : s.resetCore.tRec = 0 := rfl
@[simp] theorem State.resetCore_idx : s.resetCore.idx = 0#6 := rfl
@[simp] theorem State.resetCore_bits : s.resetCore.bits = Vector.replicate 40 false := rfl
@[simp] theorem State.resetCore_frame : s.resetCore.frame = Frame.zero := rfl
@[simp] theorem State.resetCore_hum : s.resetCore.hum = 0#12 := rfl
@[simp] theorem State.resetCore_temp : s.resetCore.temp = 0#12 := rfl
@[simp] theorem State.resetCore_pinMode : s.resetCore.pinMode = s.pinMode := rfl
@[simp] theorem State.resetCore_pinOut : s.resetCore.pinOut = s.pinOut := rfl
@[simp] theorem State.resetCore_line : s.resetCore.line = s.line := rfl
@[simp] theorem State.resetCore_clock : s.resetCore.clock = s.clock := rfl
@[simp] theorem State.resetCore_params : s.resetCore.params = s.params := rfl
@[simp] theorem State.resetCore_script : s.resetCore.script = s.script := rfl
@[simp] theorem State.resetCore_lasting : s.resetCore.lasting = s.lasting := rfl
@[simp] theorem State.resetCore_envTick : s.resetCore.envTick = s.envTick := rfl
@[simp] theorem State.resetCore_trace : s.resetCore.trace = s.trace := rfl
@[simp] theorem State.resetCore_agenda : s.resetCore.agenda = s.agenda := rfl
@[simp] theorem State.resetCore_hostRdata : s.resetCore.hostRdata = s.hostRdata := rfl

/-! ### answerHost -/

@[simp] theorem State.answerHost_upc (reg : Nat) : (s.answerHost reg).upc = s.upc := rfl
@[simp] theorem State.answerHost_tEntry (reg : Nat) : (s.answerHost reg).tEntry = s.tEntry := rfl
@[simp] theorem State.answerHost_tRec (reg : Nat) : (s.answerHost reg).tRec = s.tRec := rfl
@[simp] theorem State.answerHost_idx (reg : Nat) : (s.answerHost reg).idx = s.idx := rfl
@[simp] theorem State.answerHost_bits (reg : Nat) : (s.answerHost reg).bits = s.bits := rfl
@[simp] theorem State.answerHost_frame (reg : Nat) : (s.answerHost reg).frame = s.frame := rfl
@[simp] theorem State.answerHost_hum (reg : Nat) : (s.answerHost reg).hum = s.hum := rfl
@[simp] theorem State.answerHost_temp (reg : Nat) : (s.answerHost reg).temp = s.temp := rfl
@[simp] theorem State.answerHost_pinMode (reg : Nat) : (s.answerHost reg).pinMode = s.pinMode := rfl
@[simp] theorem State.answerHost_pinOut (reg : Nat) : (s.answerHost reg).pinOut = s.pinOut := rfl
@[simp] theorem State.answerHost_line (reg : Nat) : (s.answerHost reg).line = s.line := rfl
@[simp] theorem State.answerHost_clock (reg : Nat) : (s.answerHost reg).clock = s.clock := rfl
@[simp] theorem State.answerHost_params (reg : Nat) : (s.answerHost reg).params = s.params := rfl
@[simp] theorem State.answerHost_script (reg : Nat) : (s.answerHost reg).script = s.script := rfl
@[simp] theorem State.answerHost_lasting (reg : Nat) : (s.answerHost reg).lasting = s.lasting := rfl
@[simp] theorem State.answerHost_envTick (reg : Nat) : (s.answerHost reg).envTick = s.envTick := rfl
@[simp] theorem State.answerHost_trace (reg : Nat) : (s.answerHost reg).trace = s.trace := rfl
@[simp] theorem State.answerHost_agenda (reg : Nat) : (s.answerHost reg).agenda = s.agenda := rfl
@[simp] theorem State.answerHost_hostRdata (reg : Nat) : (s.answerHost reg).hostRdata = s.hostValue reg := rfl

/-! ### popTurn -/

@[simp] theorem State.popTurn_upc : s.popTurn.upc = s.upc := rfl
@[simp] theorem State.popTurn_tEntry : s.popTurn.tEntry = s.tEntry := rfl
@[simp] theorem State.popTurn_tRec : s.popTurn.tRec = s.tRec := rfl
@[simp] theorem State.popTurn_idx : s.popTurn.idx = s.idx := rfl
@[simp] theorem State.popTurn_bits : s.popTurn.bits = s.bits := rfl
@[simp] theorem State.popTurn_frame : s.popTurn.frame = s.frame := rfl
@[simp] theorem State.popTurn_hum : s.popTurn.hum = s.hum := rfl
@[simp] theorem State.popTurn_temp : s.popTurn.temp = s.temp := rfl
@[simp] theorem State.popTurn_pinMode : s.popTurn.pinMode = s.pinMode := rfl
@[simp] theorem State.popTurn_pinOut : s.popTurn.pinOut = s.pinOut := rfl
@[simp] theorem State.popTurn_line : s.popTurn.line = s.line := rfl
@[simp] theorem State.popTurn_clock : s.popTurn.clock = s.clock := rfl
@[simp] theorem State.popTurn_params : s.popTurn.params = s.params := rfl
@[simp] theorem State.popTurn_script : s.popTurn.script = s.script := rfl
@[simp] theorem State.popTurn_lasting : s.popTurn.lasting = s.lasting := rfl
@[simp] theorem State.popTurn_envTick : s.popTurn.envTick = s.envTick := rfl
@[simp] theorem State.popTurn_trace : s.popTurn.trace = s.trace := rfl
@[simp] theorem State.popTurn_agenda : s.popTurn.agenda = s.agenda.tail := rfl
@[simp] theorem State.popTurn_hostRdata : s.popTurn.hostRdata = s.hostRdata := rfl

end Sys2Proof.Machine
end

