-- ==== Sys2Proof/Laws/Ops.lean ====
section
/-! SUPPORT. One lemma per operand form and per shared operation, saying once what it gives or can do, so that callers
cite it and do not unfold the operation. -/

namespace Sys2Proof.Machine

/-! ## Operand forms -/

@[simp] theorem deadlinePassed_iff (now entry timeout : Nat) :
    deadlinePassed now entry timeout = true ↔ entry + timeout < now := by
  simp [deadlinePassed]

@[simp] theorem classify_iff (elapsed threshold : Nat) : classify elapsed threshold = true ↔ threshold ≤ elapsed := by
  simp [classify]

/-- The byte `pack8` gives is the weighted sum of its bits: it never exceeds 255 (30 R82). -/
theorem pack8_toNat (c0 c1 c2 c3 c4 c5 c6 c7 : Bool) :
    (pack8 c0 c1 c2 c3 c4 c5 c6 c7).toNat =
      128 * c0.toNat + 64 * c1.toNat + 32 * c2.toNat + 16 * c3.toNat + 8 * c4.toNat + 4 * c5.toNat + 2 * c6.toNat
        + c7.toNat := by
  cases c0 <;> cases c1 <;> cases c2 <;> cases c3 <;> cases c4 <;> cases c5 <;> cases c6 <;> cases c7 <;> rfl

/-- Twelve bits hold every result of the converter (45 R191). -/
theorem tenths_toNat (a b : Byte) : (tenths a b).toNat = 10 * a.toNat + b.toNat := by
  have ha := a.isLt
  have hb := b.isLt
  have h10 : (10#12).toNat = 10 := rfl
  simp only [tenths, BitVec.toNat_add, BitVec.toNat_mul, BitVec.toNat_setWidth, h10]
  omega

/-- The sum of four bytes is at most 1020 (44 R179). -/
theorem Frame.sum_le (f : Frame) : f.sum ≤ 1020 := by
  have h0 := f.b0.isLt
  have h1 := f.b1.isLt
  have h2 := f.b2.isLt
  have h3 := f.b3.isLt
  simp only [Frame.sum]
  omega

theorem Frame.checksum_toNat (f : Frame) : f.checksum.toNat = f.sum % 256 := by
  simp [Frame.checksum]

theorem Frame.valid_iff (f : Frame) : f.valid = true ↔ f.b4.toNat = f.sum % 256 := by
  rw [Frame.valid, beq_iff_eq, ← BitVec.toNat_inj, Frame.checksum_toNat]

@[simp] theorem Frame.valid_zero : Frame.zero.valid = true := by decide

@[simp] theorem drivenLevel_input (out : PinOut) : drivenLevel .input out = none := rfl

@[simp] theorem drivenLevel_output_high : drivenLevel .output .high = some .high := rfl

@[simp] theorem drivenLevel_output_low : drivenLevel .output .low = some .low := rfl

/-! ## The environment -/

@[simp] theorem State.nextMove_cons {s : State} {m : EnvMove} {rest : List EnvMove} (h : s.script = m :: rest) :
    s.nextMove = m := by
  simp [State.nextMove, h]

/-- Time only goes forward (40 R120). -/
theorem State.clock_le_servedClock (s : State) (op : CapOp) (arg : Word) : s.clock ≤ s.servedClock op arg := by
  simp only [State.servedClock]
  omega

/-- The time an operation takes by itself is `WAIT`'s, and only in the reference environment. -/
theorem State.imposedTime_reference {s : State} (h : s.params.environment = .reference) (op : CapOp) (arg : Word) :
    s.imposedTime op arg = leastTime op arg := by
  simp [State.imposedTime, h]

@[simp] theorem State.imposedTime_now (s : State) (arg : Word) : s.imposedTime .now arg = 0 := by
  cases h : s.params.environment <;> simp [State.imposedTime, h, leastTime]

@[simp] theorem State.imposedTime_query (s : State) (l : Level) (arg : Word) : s.imposedTime (queryOp l) arg = 0 := by
  cases h : s.params.environment <;> cases l <;> simp [State.imposedTime, h, queryOp, leastTime]

/-- In the reference environment `WAIT` completes no sooner than its argument after it is issued (40 R118). -/
theorem State.least_le_servedClock {s : State} (h : s.params.environment = .reference) (op : CapOp) (arg : Word) :
    s.clock + leastTime op arg ≤ s.servedClock op arg := by
  simp only [State.servedClock, State.imposedTime_reference h]
  omega

theorem State.servedClock_now (s : State) (arg : Word) : s.servedClock .now arg = s.clock + s.nextMove.delay := by
  simp [State.servedClock]

theorem State.servedClock_query (s : State) (l : Level) (arg : Word) :
    s.servedClock (queryOp l) arg = s.clock + s.nextMove.delay := by
  simp [State.servedClock]

/-- In input mode the line is the environment's (40 R113). -/
theorem State.servedLine_input {s : State} {op : CapOp} (h : s.servedMode op = .input) :
    s.servedLine op = s.nextMove.level := by
  simp [State.servedLine, h]

/-- A driven line has the latched level (40 R112, R114, R115). -/
theorem State.servedLine_output {s : State} {op : CapOp} (h : s.servedMode op = .output) :
    (s.servedOut op = .high → s.servedLine op = .high) ∧ (s.servedOut op = .low → s.servedLine op = .low) := by
  constructor <;> intro h' <;> simp [State.servedLine, h, h']

/-- Off output mode the pin drives nothing, and the line is the environment's. -/
theorem State.servedLine_undriven {s : State} {op : CapOp} (h : s.servedMode op ≠ .output) :
    s.servedLine op = s.nextMove.level := by
  cases hm : s.servedMode op with
  | output => exact absurd hm h
  | input => simp [State.servedLine, hm]
  | unknown => simp [State.servedLine, hm, drivenLevel]

/-- The environment's level answers a query in the general environment, and in the reference one off output mode. -/
theorem State.seenLevel_free {s : State} {op : CapOp}
    (h : s.params.environment = .general ∨ s.servedMode op ≠ .output) : s.seenLevel op = s.nextMove.level := by
  cases he : s.params.environment with
  | general => simp [State.seenLevel, he]
  | reference =>
    rcases h with h | h
    · rw [he] at h
      cases h
    · simp [State.seenLevel, he, State.servedLine_undriven h]

/-- A withdrawn operation is performed by the environment or not; nothing else can happen (93 U11). -/
theorem State.withdraw_cases (s : State) (c : Bool) :
    s.withdraw c = s ∨ ∃ op arg, c = true ∧ issuedBy s.params s.upc = some (op, arg) ∧ s.withdraw c = s.environment op arg := by
  cases c with
  | false => exact .inl rfl
  | true =>
    simp only [State.withdraw, if_true]
    split
    · rename_i op arg h
      exact .inr ⟨op, arg, trivial, h, rfl⟩
    · exact .inl rfl

/-! ## The micro-operations of the level-wait -/

/-- Everything `x_C` can do: raise Timeout past the deadline, or poll again (41 R133). -/
theorem checkDeadline_cases (query : MicroState) (s : State) :
    (s.tEntry + s.params.tTimeoutUs < s.servedClock .now 0#32 ∧
        checkDeadline query s = (s.issue .now 0#32).raiseError .timeout) ∨
      (s.servedClock .now 0#32 ≤ s.tEntry + s.params.tTimeoutUs ∧
        checkDeadline query s = (s.issue .now 0#32).setUpc query) := by
  by_cases h : s.tEntry + s.params.tTimeoutUs < s.servedClock .now 0#32
  · exact .inl ⟨h, by simp [checkDeadline, h]⟩
  · exact .inr ⟨by omega, by simp [checkDeadline, h]⟩

/-- The response of a query is whether the level seen is the one asked for (40 R116, R117). -/
theorem State.responseOf_query (s : State) (target : Level) (arg : Word) :
    s.responseOf (queryOp target) arg = .bit (s.seenLevel (queryOp target) == target) := by
  cases target <;> rfl

/-- Everything `x_Q` can do: go on where the level is seen, else to the deadline check (41 R132). -/
theorem queryPin_cases (target : Level) (success check : MicroState) (s : State) :
    (s.seenLevel (queryOp target) = target ∧
        queryPin target success check s = (s.issue (queryOp target) 0#32).setUpc success) ∨
      (s.seenLevel (queryOp target) ≠ target ∧
        queryPin target success check s = (s.issue (queryOp target) 0#32).setUpc check) := by
  by_cases h : s.seenLevel (queryOp target) = target
  · exact .inl ⟨h, by simp [queryPin, State.responseOf_query, h]⟩
  · exact .inr ⟨h, by simp [queryPin, State.responseOf_query, h]⟩

/-- When `S_CLS` has a successor. -/
theorem sampleFault_eq_none_iff (p : Params) (now tRec : Nat) (idx : BitVec 6) :
    sampleFault p now tRec idx = none ↔
      tRec ≤ now ∧ idx.toNat < 40 ∧ ¬(p.elapsedViolation = .fault ∧ p.tTimeoutUs ≤ now - tRec) := by
  simp only [sampleFault]
  split
  · simp only [reduceCtorEq, false_iff]
    omega
  · split
    · rename_i h
      simp [h]
    · split
      · rename_i h1 h2 h3
        exact ⟨fun _ => ⟨by omega, h3, h2⟩, fun _ => rfl⟩
      · rename_i h3
        simp [h3]

/-- Everything `S_CLS` can do where it answers a next state (43 R164, R165). -/
theorem execSCls_next {s t : State} (h : execSCls s = .next t) :
    sampleFault s.params (s.servedClock .now 0#32) s.tRec s.idx = none ∧
      t = ((s.issue .now 0#32).storeBit (classify (s.servedClock .now 0#32 - s.tRec) s.params.tThresholdUs)).setUpc
            (afterClassify s.idx) := by
  simp only [execSCls, State.issue_clock, State.issue_tRec, State.issue_params, State.issue_idx] at h
  split at h
  · cases h
  · rename_i h1
    injection h with h
    exact ⟨h1, h.symm⟩

/-- `S_CLS` runs where nothing stops it (43 R164). -/
theorem execSCls_of {s : State} (h : sampleFault s.params (s.servedClock .now 0#32) s.tRec s.idx = none) :
    execSCls s =
      .next (((s.issue .now 0#32).storeBit (classify (s.servedClock .now 0#32 - s.tRec) s.params.tThresholdUs)).setUpc
        (afterClassify s.idx)) := by
  simp only [execSCls, State.issue_clock, State.issue_tRec, State.issue_params, State.issue_idx, h]

theorem storeBit_idx_toNat {s : State} (b : Bool) (h : s.idx.toNat < 40) :
    (s.storeBit b).idx.toNat = s.idx.toNat + 1 := by
  have h1 : (1#6).toNat = 1 := rfl
  rw [State.storeBit_idx, BitVec.toNat_add, h1]
  omega

end Sys2Proof.Machine
end

