-- ==== Sys2Proof/Laws/PerInstr.lean ====
section
/-! SUPPORT. The family TableRow: every instruction's word matches its own row of the opcode table, match and mask as
the table has them (30 R109). -/

namespace Sys2Proof.Laws

/-- The mask of an instruction's row, in the row's format. -/
def rowMask : Instr → CodeWord
  | .setModeOutput _ => .cap 0xF00000000#36
  | .setModeInput _ => .cap 0xF00000000#36
  | .driveHigh _ => .cap 0xF00000000#36
  | .driveLow _ => .cap 0xF00000000#36
  | .queryHigh _ => .cap 0xF00000000#36
  | .queryLow _ => .cap 0xF00000000#36
  | .wait _ => .cap 0xF00000000#36
  | .now _ => .cap 0xF00000000#36
  | .idle => .useq 0x1F#5
  | .hOut => .useq 0x1F#5
  | .hHi0 => .useq 0x1F#5
  | .hLo => .useq 0x1F#5
  | .hHold => .useq 0x1F#5
  | .hHi1 => .useq 0x1F#5
  | .hRel => .useq 0x1F#5
  | .hIn => .useq 0x1F#5
  | .hW1T => .useq 0x1F#5
  | .hW1Q => .useq 0x1F#5
  | .hW1C => .useq 0x1F#5
  | .hW2T => .useq 0x1F#5
  | .hW2Q => .useq 0x1F#5
  | .hW2C => .useq 0x1F#5
  | .hW3T => .useq 0x1F#5
  | .hW3Q => .useq 0x1F#5
  | .hW3C => .useq 0x1F#5
  | .sWhT => .useq 0x1F#5
  | .sWhQ => .useq 0x1F#5
  | .sWhC => .useq 0x1F#5
  | .sRec => .useq 0x1F#5
  | .sWlT => .useq 0x1F#5
  | .sWlQ => .useq 0x1F#5
  | .sWlC => .useq 0x1F#5
  | .sCls => .useq 0x1F#5
  | .vPack => .useq 0x1F#5
  | .vChk => .useq 0x1F#5
  | .cConv => .useq 0x1F#5
  | .done => .useq 0x1F#5
  | .errTimeout => .useq 0x1F#5
  | .errChecksum => .useq 0x1F#5
  | .start _ => .host 0x00000001#32

/-- The match of an instruction's row, in the row's format. -/
def rowMatch : Instr → CodeWord
  | .setModeOutput _ => .cap 0x100000000#36
  | .setModeInput _ => .cap 0x200000000#36
  | .driveHigh _ => .cap 0x300000000#36
  | .driveLow _ => .cap 0x400000000#36
  | .queryHigh _ => .cap 0x500000000#36
  | .queryLow _ => .cap 0x600000000#36
  | .wait _ => .cap 0x800000000#36
  | .now _ => .cap 0x900000000#36
  | .idle => .useq 0x00#5
  | .hOut => .useq 0x01#5
  | .hHi0 => .useq 0x02#5
  | .hLo => .useq 0x03#5
  | .hHold => .useq 0x04#5
  | .hHi1 => .useq 0x05#5
  | .hRel => .useq 0x06#5
  | .hIn => .useq 0x07#5
  | .hW1T => .useq 0x08#5
  | .hW1Q => .useq 0x09#5
  | .hW1C => .useq 0x0A#5
  | .hW2T => .useq 0x0B#5
  | .hW2Q => .useq 0x0C#5
  | .hW2C => .useq 0x0D#5
  | .hW3T => .useq 0x0E#5
  | .hW3Q => .useq 0x0F#5
  | .hW3C => .useq 0x10#5
  | .sWhT => .useq 0x11#5
  | .sWhQ => .useq 0x12#5
  | .sWhC => .useq 0x13#5
  | .sRec => .useq 0x14#5
  | .sWlT => .useq 0x15#5
  | .sWlQ => .useq 0x16#5
  | .sWlC => .useq 0x17#5
  | .sCls => .useq 0x18#5
  | .vPack => .useq 0x19#5
  | .vChk => .useq 0x1A#5
  | .cConv => .useq 0x1B#5
  | .done => .useq 0x1C#5
  | .errTimeout => .useq 0x1D#5
  | .errChecksum => .useq 0x1E#5
  | .start _ => .host 0x00000001#32

/-- A word under a row's mask is the row's match, all three of one format. -/
def rowMatches : CodeWord → CodeWord → CodeWord → Prop
  | .cap w, .cap mask, .cap m => w &&& mask = m
  | .useq w, .useq mask, .useq m => w &&& mask = m
  | .host w, .host mask, .host m => w &&& mask = m
  | _, _, _ => False

/-- Under the CAP mask only the operation's code is left. -/
theorem word_and_mask (op : CapOp) (arg : Word) : CapOp.word op arg &&& 0xF00000000#36 = op.code ++ 0#32 := by
  have e : op.code &&& 15#4 = op.code := by cases op <;> rfl
  have h := BitVec.and_append (x₁ := op.code) (x₂ := 15#4) (y₁ := arg) (y₂ := 0#32)
  rw [BitVec.and_zero, e] at h
  exact h

/-- Under the HOST mask only the command bit is left. -/
theorem host_and_mask (ignored : BitVec 31) : (ignored ++ 1#1) &&& 1#32 = 1#32 := by
  have h := BitVec.and_append (x₁ := ignored) (x₂ := 0#31) (y₁ := 1#1) (y₂ := 1#1)
  rw [BitVec.and_zero] at h
  exact h

/-- The statement of the family: the instruction's word matches its row. -/
def TableRow.Statement (i : Instr) : Prop := rowMatches (encode i) (rowMask i) (rowMatch i)

theorem TableRow.setModeOutput (arg : Word) : TableRow.Statement (.setModeOutput arg) := word_and_mask .setModeOutput arg

theorem TableRow.setModeInput (arg : Word) : TableRow.Statement (.setModeInput arg) := word_and_mask .setModeInput arg

theorem TableRow.driveHigh (arg : Word) : TableRow.Statement (.driveHigh arg) := word_and_mask .driveHigh arg

theorem TableRow.driveLow (arg : Word) : TableRow.Statement (.driveLow arg) := word_and_mask .driveLow arg

theorem TableRow.queryHigh (arg : Word) : TableRow.Statement (.queryHigh arg) := word_and_mask .queryHigh arg

theorem TableRow.queryLow (arg : Word) : TableRow.Statement (.queryLow arg) := word_and_mask .queryLow arg

theorem TableRow.wait (arg : Word) : TableRow.Statement (.wait arg) := word_and_mask .wait arg

theorem TableRow.now (arg : Word) : TableRow.Statement (.now arg) := word_and_mask .now arg

theorem TableRow.idle : TableRow.Statement .idle := rfl

theorem TableRow.hOut : TableRow.Statement .hOut := rfl

theorem TableRow.hHi0 : TableRow.Statement .hHi0 := rfl

theorem TableRow.hLo : TableRow.Statement .hLo := rfl

theorem TableRow.hHold : TableRow.Statement .hHold := rfl

theorem TableRow.hHi1 : TableRow.Statement .hHi1 := rfl

theorem TableRow.hRel : TableRow.Statement .hRel := rfl

theorem TableRow.hIn : TableRow.Statement .hIn := rfl

theorem TableRow.hW1T : TableRow.Statement .hW1T := rfl

theorem TableRow.hW1Q : TableRow.Statement .hW1Q := rfl

theorem TableRow.hW1C : TableRow.Statement .hW1C := rfl

theorem TableRow.hW2T : TableRow.Statement .hW2T := rfl

theorem TableRow.hW2Q : TableRow.Statement .hW2Q := rfl

theorem TableRow.hW2C : TableRow.Statement .hW2C := rfl

theorem TableRow.hW3T : TableRow.Statement .hW3T := rfl

theorem TableRow.hW3Q : TableRow.Statement .hW3Q := rfl

theorem TableRow.hW3C : TableRow.Statement .hW3C := rfl

theorem TableRow.sWhT : TableRow.Statement .sWhT := rfl

theorem TableRow.sWhQ : TableRow.Statement .sWhQ := rfl

theorem TableRow.sWhC : TableRow.Statement .sWhC := rfl

theorem TableRow.sRec : TableRow.Statement .sRec := rfl

theorem TableRow.sWlT : TableRow.Statement .sWlT := rfl

theorem TableRow.sWlQ : TableRow.Statement .sWlQ := rfl

theorem TableRow.sWlC : TableRow.Statement .sWlC := rfl

theorem TableRow.sCls : TableRow.Statement .sCls := rfl

theorem TableRow.vPack : TableRow.Statement .vPack := rfl

theorem TableRow.vChk : TableRow.Statement .vChk := rfl

theorem TableRow.cConv : TableRow.Statement .cConv := rfl

theorem TableRow.done : TableRow.Statement .done := rfl

theorem TableRow.errTimeout : TableRow.Statement .errTimeout := rfl

theorem TableRow.errChecksum : TableRow.Statement .errChecksum := rfl

theorem TableRow.start (ignored : BitVec 31) : TableRow.Statement (.start ignored) := host_and_mask ignored

end Sys2Proof.Laws
end

