-- ==== Sys2Proof/Laws/Step.lean ====
section
/-! SUPPORT. What a step can do, said once: one equation per turn, and the inversion lemma `step_cases`. -/

namespace Sys2Proof.Machine

@[simp] theorem MicroState.ofCode_code (m : MicroState) : MicroState.ofCode m.code = some m := by
  cases m <;> rfl

@[simp] theorem decode_useq_code (m : MicroState) : decode (.useq m.code) = .ok m.instr := by
  simp [decode, decodeUseq]

theorem MicroState.code_of_ofCode {w : BitVec 5} {m : MicroState} (h : MicroState.ofCode w = some m) : m.code = w := by
  have key : ∀ v : BitVec 5, (MicroState.ofCode v).all (fun n => n.code == v) = true := by decide
  have hw := key w
  rw [h] at hw
  exact beq_iff_eq.mp hw

theorem MicroState.code_injective {m n : MicroState} (h : m.code = n.code) : m = n := by
  have hm := MicroState.ofCode_code m
  rw [h, MicroState.ofCode_code] at hm
  injection hm with hm
  exact hm.symm

@[simp] theorem encode_instr (m : MicroState) : encode m.instr = .useq m.code := by
  cases m <;> rfl

theorem State.turn_nil {s : State} (h : s.agenda = []) : s.turn = .core := by simp [State.turn, h]

theorem State.popTurn_nil {s : State} (h : s.agenda = []) : s.popTurn = s := by
  cases s
  simp_all [State.popTurn]

/-- A turn of the core runs the micro-operation `UPC` names. -/
theorem step_core {s : State} (h : s.turn = .core) : step s = exec s.upc.instr s.popTurn := by
  simp [step, fetch, h]

theorem step_core_nil {s : State} (h : s.agenda = []) : step s = exec s.upc.instr s := by
  rw [step_core (State.turn_nil h), State.popTurn_nil h]

theorem step_reset {s : State} {c : Bool} {w : Option (Nat × Word)} (h : s.turn = .reset c w) :
    step s = .next (s.popTurn.withdraw c).resetCore := by
  simp [step, fetch, h]

theorem step_hostRead {s : State} {r : Nat} (h : s.turn = .hostRead r) : step s = .next (s.popTurn.answerHost r) := by
  simp [step, fetch, h]

/-- A host write to `HR0` with bit 0 set is START; every other host write changes nothing (10 R41, R45; 30 R98). -/
theorem step_hostWrite {s : State} {r : Nat} {d : Word} (h : s.turn = .hostWrite r d) :
    step s = .next (if r = 0 ∧ d[0] = true ∧ s.busy = false then s.popTurn.beginReadout else s.popTurn) := by
  have hb : s.popTurn.busy = s.busy := rfl
  cases r with
  | succ n => simp [step, fetch, h, hostWrite]
  | zero =>
    by_cases hd : d[0] = true
    · cases hs : s.busy <;> simp [step, fetch, h, hostWrite, decode, decodeHost, hd, exec, execStart, hb, hs]
    · simp [step, fetch, h, hostWrite, decode, decodeHost, hd, undecoded]

/-- The capability operations have one meaning: the operation is issued. -/
theorem exec_cap {w : BitVec 36} {i : Instr} (h : decodeCap w = .ok i) (s : State) :
    ∃ op arg, exec i s = .next (s.issue op arg) := by
  simp only [decodeCap] at h
  split at h <;> first
    | (injection h with h
       subst h
       exact ⟨_, _, rfl⟩)
    | cases h

@[simp] theorem CapOp.word_op (op : CapOp) (arg : Word) : (op.word arg).extractLsb' 32 4 = op.code :=
  BitVec.extractLsb'_append_eq_left

@[simp] theorem CapOp.word_arg (op : CapOp) (arg : Word) : (op.word arg).extractLsb' 0 32 = arg :=
  BitVec.extractLsb'_append_eq_right

/-- The word of a capability operation decodes to the instruction that issues it. -/
theorem decode_capWord (op : CapOp) (arg : Word) :
    ∃ i, decode (.cap (op.word arg)) = .ok i ∧ ∀ s, exec i s = .next (s.issue op arg) := by
  simp only [decode, decodeCap, CapOp.word_op, CapOp.word_arg]
  cases op <;> exact ⟨_, rfl, fun _ => rfl⟩

/-- Progress (a) of 40 R123 holds by construction (log 4). -/
theorem operationsComplete : OperationsComplete := by
  intro s op arg
  obtain ⟨i, hd, he⟩ := decode_capWord op arg
  exact ⟨i, s.issue op arg, s.responseOf op arg, hd, he s, rfl, rfl, rfl, rfl⟩

/-- The next move is the first of the coming ones. -/
theorem futureMove_zero (s : State) : futureMove s 0 = s.nextMove := by
  cases h : s.script <;> simp [futureMove, State.nextMove, h]

/-- What an operation leaves to come is what came after its own move. -/
theorem futureMove_issue (s : State) (op : CapOp) (arg : Word) (n : Nat) :
    futureMove (s.issue op arg) n = futureMove s (n + 1) := by
  have hn : s.envTick + 1 + n = s.envTick + (n + 1) := by omega
  cases h : s.script <;> simp [futureMove, State.unscripted, h, hn]

/-- An operation takes the clock at least as far as its own move does, and by no more than it imposes. -/
theorem timeAfter_issue (s : State) (op : CapOp) (arg : Word) (n : Nat) :
    timeAfter (s.issue op arg) n = timeAfter s (n + 1) + s.imposedTime op arg := by
  induction n with
  | zero =>
    simp only [timeAfter, State.issue_clock, State.servedClock, futureMove_zero]
    omega
  | succ n ih =>
    have h : timeAfter s (n + 1 + 1) = timeAfter s (n + 1) + (futureMove s (n + 1)).delay := rfl
    rw [timeAfter, ih, futureMove_issue, h]
    omega

/-- The coming moves and the clock are all that the coming time depends on. -/
theorem timeAfter_of_environmentSame {s t : State} (h : EnvironmentSame s t) (n : Nat) : timeAfter t n = timeAfter s n := by
  obtain ⟨_, _, _, hclock, hscript, hlasting, htick⟩ := h
  induction n with
  | zero => exact hclock
  | succ n ih => simp [timeAfter, ih, futureMove, State.unscripted, hscript, hlasting, htick]

theorem timeAfter_le_succ (s : State) (n : Nat) : timeAfter s n ≤ timeAfter s (n + 1) := Nat.le_add_right _ _

/-- That time moves depends on the environment only. -/
theorem timeMoves_of_environmentSame {s t : State} (h : EnvironmentSame s t) (hs : TimeMoves s) : TimeMoves t := by
  intro bound
  obtain ⟨n, hn⟩ := hs bound
  exact ⟨n, by rwa [timeAfter_of_environmentSame h]⟩

/-- An operation leaves time moving. -/
theorem timeMoves_issue {s : State} (op : CapOp) (arg : Word) (hs : TimeMoves s) : TimeMoves (s.issue op arg) := by
  intro bound
  obtain ⟨n, hn⟩ := hs bound
  have hle := timeAfter_le_succ s n
  exact ⟨n, by rw [timeAfter_issue]; omega⟩

/-- Everything a step can do where it answers a next state. -/
theorem step_cases {s t : State} (h : step s = .next t) :
    (s.turn = .core ∧ exec s.upc.instr s.popTurn = .next t) ∨
      (∃ c w, s.turn = .reset c w ∧ t = (s.popTurn.withdraw c).resetCore) ∨
      (∃ r d, s.turn = .hostWrite r d ∧ t = s.popTurn) ∨
      (∃ d, s.turn = .hostWrite 0 d ∧ d[0] = true ∧ s.busy = false ∧ t = s.popTurn.beginReadout) ∨
      (∃ r, s.turn = .hostRead r ∧ t = s.popTurn.answerHost r) ∨
      (∃ w op arg, s.turn = .busWord w ∧ t = s.popTurn.issue op arg) := by
  cases hturn : s.turn with
  | core => exact .inl ⟨rfl, by rw [← step_core hturn]; exact h⟩
  | reset c w =>
    rw [step_reset hturn] at h
    injection h with h
    exact .inr (.inl ⟨c, w, rfl, h.symm⟩)
  | hostWrite r d =>
    rw [step_hostWrite hturn] at h
    injection h with h
    split at h
    · rename_i hc
      obtain ⟨rfl, hd, hb⟩ := hc
      exact .inr (.inr (.inr (.inl ⟨d, rfl, hd, hb, h.symm⟩)))
    · exact .inr (.inr (.inl ⟨r, d, rfl, h.symm⟩))
  | hostRead r =>
    rw [step_hostRead hturn] at h
    injection h with h
    exact .inr (.inr (.inr (.inr (.inl ⟨r, rfl, h.symm⟩))))
  | busWord w =>
    simp only [step, fetch, hturn, decode] at h
    split at h
    · rename_i i hi
      obtain ⟨op, arg, he⟩ := exec_cap hi s.popTurn
      rw [he] at h
      injection h with h
      exact .inr (.inr (.inr (.inr (.inr ⟨w, op, arg, rfl, h.symm⟩))))
    · rename_i e _
      cases e with
      | notACommand d =>
        exfalso
        rename_i he
        simp only [decodeCap] at he
        split at he <;> cases he
      | reservedCapability op => cases h
      | reservedMicroState c => cases h

/-- No instruction but `S_CLS` has a state without a successor. -/
theorem exec_next_of_ne_sCls {i : Instr} (h : i ≠ .sCls) (s : State) : ∃ t, exec i s = .next t := by
  cases i <;> first
    | exact absurd rfl h
    | exact ⟨_, rfl⟩

/-- The four micro-states at rest are those with `BUSY = 0` (10 R32). -/
theorem State.busy_eq_false_iff (s : State) : s.busy = false ↔ s.upc ∈ [.idle, .done, .errTimeout, .errChecksum] := by
  simp only [State.busy]
  cases s.upc <;> decide

/-- The fifteen micro-operations of the level-waits are the three of their instance. -/
theorem exec_waitInstance {w : WaitInstance} (hw : w ∈ waitInstances) (s : State) :
    exec w.entry.instr s = .next (takeEntry w.query s) ∧
      exec w.query.instr s = .next (queryPin w.target w.success w.check s) ∧
      exec w.check.instr s = .next (checkDeadline w.query s) := by
  simp only [waitInstances, List.mem_cons, List.not_mem_nil, or_false] at hw
  rcases hw with rfl | rfl | rfl | rfl | rfl <;> exact ⟨rfl, rfl, rfl⟩

/-- Everything a micro-operation can do where it answers a next state, in ten cases: rest, a control step, the three
micro-operations of a level-wait (query and check with both outcomes), `S_REC`, `S_CLS`, `V_PACK`, `V_CHK` with both
outcomes, `C_CONV`. -/
theorem exec_micro_cases {s t : State} (h : exec s.upc.instr s = .next t) :
    (s.upc ∈ [.idle, .done, .errTimeout, .errChecksum] ∧ t = s) ∨
      (∃ op arg onward,
        (s.upc, op, arg, onward) ∈
          [(.hOut, .setModeOutput, 0#32, .hHi0), (.hHi0, .driveHigh, 0#32, .hLo), (.hLo, .driveLow, 0#32, .hHold),
            (.hHold, .wait, s.params.tStartLowUs, .hHi1), (.hHi1, .driveHigh, 0#32, .hRel),
            (.hRel, .wait, s.params.tReleaseUs, .hIn), (.hIn, .setModeInput, 0#32, .hW1T)] ∧
          t = controlStep op arg onward s) ∨
      (∃ w ∈ waitInstances,
        (s.upc = w.entry ∧ t = takeEntry w.query s) ∨
          (s.upc = w.query ∧ t = queryPin w.target w.success w.check s) ∨
          (s.upc = w.check ∧ t = checkDeadline w.query s)) ∨
      (s.upc = .sRec ∧ t = ((s.issue .now 0#32).setRec (s.servedClock .now 0#32)).setUpc .sWlT) ∨
      (s.upc = .sCls ∧ sampleFault s.params (s.servedClock .now 0#32) s.tRec s.idx = none ∧
        t = ((s.issue .now 0#32).storeBit (classify (s.servedClock .now 0#32 - s.tRec) s.params.tThresholdUs)).setUpc
              (afterClassify s.idx)) ∨
      (s.upc = .vPack ∧ t = (s.setFrame (packFrame s.bits)).setUpc .vChk) ∨
      (s.upc = .vChk ∧ s.frame.valid = true ∧ t = s.setUpc .cConv) ∨
      (s.upc = .vChk ∧ s.frame.valid = false ∧ t = s.raiseError .checksumError) ∨
      (s.upc = .cConv ∧
        t = (s.setReading (tenths s.frame.b0 s.frame.b1) (tenths s.frame.b2 s.frame.b3)).setUpc .done) := by
  cases hu : s.upc <;> rw [hu] at h <;> first
    | exact .inr (.inr (.inr (.inr (.inl ⟨rfl, execSCls_next h⟩))))
    | (injection h with h
       subst h
       first
         | exact .inl ⟨by decide, rfl⟩
         | (refine .inr (.inr (.inl ?_))
            simp [waitInstances]
            done)
         | (refine .inr (.inl ⟨_, _, _, ?_, rfl⟩)
            simp)
         | exact .inr (.inr (.inr (.inl ⟨rfl, rfl⟩)))
         | exact .inr (.inr (.inr (.inr (.inr (.inl ⟨rfl, rfl⟩)))))
         | (cases s.frame.valid <;> simp))

/-- Where the sampler classifies, its counter names a cell and its clock is in order, nothing stops `S_CLS` (43 R164,
R165). -/
theorem execSCls_of_classifies {s : State} (hp : Classifies s.params (s.servedClock .now 0#32 - s.tRec))
    (hi : s.idx.toNat ≤ 39) (hr : s.tRec ≤ s.clock) :
    execSCls s =
      .next (((s.issue .now 0#32).storeBit (classify (s.servedClock .now 0#32 - s.tRec) s.params.tThresholdUs)).setUpc
        (afterClassify s.idx)) := by
  have hc := State.clock_le_servedClock s .now 0#32
  refine execSCls_of ((sampleFault_eq_none_iff _ _ _ _).mpr ⟨by omega, by omega, ?_⟩)
  rintro ⟨hf, hl⟩
  rcases hp with hp | hp
  · rw [hp] at hf
    cases hf
  · omega

/-! ## Runs -/

theorem run_zero (s : State) : run 0 s = .next s := rfl

theorem run_succ {s t : State} (h : step s = .next t) (k : Nat) : run (k + 1) s = run k t := by
  rw [run, h]

theorem run_one {s t : State} (h : step s = .next t) : run 1 s = .next t := by
  rw [run_succ h, run_zero]

/-- A run of one more step begins with a step. -/
theorem step_of_run_succ {s t : State} {j : Nat} (h : run (j + 1) s = .next t) :
    ∃ s', step s = .next s' ∧ run j s' = .next t := by
  rw [run] at h
  cases hs : step s with
  | next s' =>
    rw [hs] at h
    exact ⟨s', rfl, h⟩
  | fault r =>
    rw [hs] at h
    cases h
  | refused r =>
    rw [hs] at h
    cases h

/-- Runs compose. -/
theorem run_add {s t : State} {j : Nat} (h : run j s = .next t) (k : Nat) : run (j + k) s = run k t := by
  induction j generalizing s with
  | zero =>
    injection h with h
    subst h
    rw [Nat.zero_add]
  | succ j ih =>
    obtain ⟨s', hs, h'⟩ := step_of_run_succ h
    rw [Nat.add_right_comm, run_succ hs]
    exact ih h'

/-- A run of any machine behind the host's interface begins with a step. -/
theorem host_run_succ (M : Host.Core) (k : Nat) (s : M.State) :
    M.run (k + 1) s = Host.Outcome.casesOn (M.step s) (fun t => M.run k t) .fault .refused := by
  rw [Host.Core.run]
  cases M.step s <;> rfl

/-- The host's interface runs the same machine. -/
theorem core_run (k : Nat) (s : State) : core.run k s = run k s := by
  induction k generalizing s with
  | zero => rfl
  | succ k ih =>
    refine (host_run_succ core k s).trans ?_
    change Host.Outcome.casesOn (step s) (fun t => core.run k t) .fault .refused = run (k + 1) s
    rw [run]
    cases step s with
    | next t => exact ih t
    | fault f => rfl
    | refused r => rfl

end Sys2Proof.Machine
end

