-- ==== Sys2Proof/WellFormed.lean ====
section
/-! DEFINITION. Well-formed instructions: the words the spec's agents present. -/

namespace Sys2Proof

/-- "For an operation without an argument the core drives `cap_arg = 0`" (30 R90); `WAIT` takes any 32-bit value
(30 R103); micro-operations have no operand; a `START` may carry any ignored bits (30 R98). A word that breaks the
first clause still runs, its argument ignored: this predicate says what is presented, not what is accepted. -/
def Instr.WellFormed : Instr → Bool
  | .setModeOutput arg => arg == 0#32
  | .setModeInput arg => arg == 0#32
  | .driveHigh arg => arg == 0#32
  | .driveLow arg => arg == 0#32
  | .queryHigh arg => arg == 0#32
  | .queryLow arg => arg == 0#32
  | .wait _ => true
  | .now arg => arg == 0#32
  | .idle => true
  | .hOut => true
  | .hHi0 => true
  | .hLo => true
  | .hHold => true
  | .hHi1 => true
  | .hRel => true
  | .hIn => true
  | .hW1T => true
  | .hW1Q => true
  | .hW1C => true
  | .hW2T => true
  | .hW2Q => true
  | .hW2C => true
  | .hW3T => true
  | .hW3Q => true
  | .hW3C => true
  | .sWhT => true
  | .sWhQ => true
  | .sWhC => true
  | .sRec => true
  | .sWlT => true
  | .sWlQ => true
  | .sWlC => true
  | .sCls => true
  | .vPack => true
  | .vChk => true
  | .cConv => true
  | .done => true
  | .errTimeout => true
  | .errChecksum => true
  | .start _ => true

end Sys2Proof
end

