-- ==== Sys2Proof/Tests/Slice0.lean ====
section
/-! SUPPORT. Tests on the vectors of spec/95_test_vectors.md, one step each, and for every statement with hypotheses the
witnesses that meet them. -/

namespace Sys2Proof.Tests

open Machine

/-! ## Well-formed instructions: an ill-formed term for each check is refused -/

theorem test_wf_setModeOutput : (Instr.setModeOutput 1#32).WellFormed = false := by decide
theorem test_wf_setModeInput : (Instr.setModeInput 1#32).WellFormed = false := by decide
theorem test_wf_driveHigh : (Instr.driveHigh 1#32).WellFormed = false := by decide
theorem test_wf_driveLow : (Instr.driveLow 1#32).WellFormed = false := by decide
theorem test_wf_queryHigh : (Instr.queryHigh 1#32).WellFormed = false := by decide
theorem test_wf_queryLow : (Instr.queryLow 1#32).WellFormed = false := by decide
theorem test_wf_now : (Instr.now 1#32).WellFormed = false := by decide
theorem test_wf_accepts : (Instr.queryLow 0#32).WellFormed = true ∧ (Instr.wait 7#32).WellFormed = true ∧
    Instr.vChk.WellFormed = true ∧ (Instr.start 0#31).WellFormed = true := by decide

/-! ## Small states -/

/-- What `f` shows of the next state, if there is one. -/
def look {α : Type} (o : Host.Outcome State Fault Refusal) (f : State → α) : Option α :=
  match o with
  | .next t => some (f t)
  | .fault _ => none
  | .refused _ => none

/-- The core at `m`, the pin as the handshake leaves it, the environment's moves given. -/
def at_ (m : MicroState) (moves : List EnvMove) : State :=
  { State.reset with upc := m, pinMode := .input, pinOut := .high, script := moves }

/-- The same with the pin in output mode. -/
def out_ (m : MicroState) (o : PinOut) (moves : List EnvMove) : State :=
  { State.reset with upc := m, pinMode := .output, pinOut := o, script := moves }

/-- The same in the reference environment of 10 R50. -/
def ref (s : State) : State := { s with params := { s.params with environment := .reference } }

/-- A capability word is on the bus. -/
def bus (w : BitVec 36) (s : State) : State := { s with agenda := [.busWord w] }

/-- `d` microseconds pass and the undriven line is low. -/
def lo (d : Nat) : EnvMove := ⟨d, .low⟩

/-- `d` microseconds pass and the undriven line is high. -/
def hi (d : Nat) : EnvMove := ⟨d, .high⟩

/-- A frame from its five bytes. -/
def frameOf (a b c d e : Byte) : Frame := ⟨a, b, c, d, e⟩

/-! ## Capability operations (95 2.1) -/

/-- CO1. -/
theorem test_setModeOutput :
    look (step (bus 0x100000000#36 (at_ .idle [lo 1]))) (fun t => (t.pinMode, t.pinOut, t.line)) =
      some (.output, .high, .high) := by decide

/-- CO6. -/
theorem test_setModeInput :
    look (step (bus 0x200000000#36 (out_ .idle .high [lo 1]))) (fun t => (t.pinMode, t.pinOut, t.line)) =
      some (.input, .high, .low) := by decide

/-- CO2. -/
theorem test_driveHigh :
    look (step (bus 0x300000000#36 (out_ .idle .low [lo 1]))) (fun t => (t.pinMode, t.pinOut, t.line)) =
      some (.output, .high, .high) := by decide

/-- CO3. -/
theorem test_driveLow :
    look (step (bus 0x400000000#36 (out_ .idle .high [hi 1]))) (fun t => (t.pinMode, t.pinOut, t.line)) =
      some (.output, .low, .low) := by decide

/-- CO7, CO8: the response is true for a high line and false for a low one. -/
theorem test_queryHigh :
    look (step (bus 0x500000000#36 (ref (at_ .idle [hi 1])))) (fun t => t.trace) =
        some [⟨.idle, .queryHigh, 0#32, .bit true⟩] ∧
      look (step (bus 0x500000000#36 (ref (at_ .idle [lo 1])))) (fun t => t.trace) =
        some [⟨.idle, .queryHigh, 0#32, .bit false⟩] := by decide

/-- CO7, CO8. -/
theorem test_queryLow :
    look (step (bus 0x600000000#36 (ref (at_ .idle [lo 1])))) (fun t => t.trace) =
        some [⟨.idle, .queryLow, 0#32, .bit true⟩] ∧
      look (step (bus 0x600000000#36 (ref (at_ .idle [hi 1])))) (fun t => t.trace) =
        some [⟨.idle, .queryLow, 0#32, .bit false⟩] := by decide

/-- R126: in the general environment a query in output mode may have either answer, here against the driven level. -/
theorem test_general_query :
    look (step (bus 0x600000000#36 (out_ .idle .high [lo 1]))) (fun t => (t.line, t.trace)) =
        some (.high, [⟨.idle, .queryLow, 0#32, .bit true⟩]) ∧
      look (step (bus 0x600000000#36 (ref (out_ .idle .high [lo 1])))) (fun t => t.trace) =
        some [⟨.idle, .queryLow, 0#32, .bit false⟩] := by decide

/-- CO4: `WAIT(20000)` from 1003 to 21003 where nothing adds to it. -/
theorem test_wait :
    look (step (bus 0x800004E20#36 (ref { at_ .idle [lo 0] with clock := 1003 }))) (fun t => (t.clock, t.trace)) =
      some (21003, [⟨.idle, .wait, 20000#32, .empty⟩]) := by decide

/-- CO5: `WAIT(0)` is legal and completes at once. -/
theorem test_wait_zero :
    look (step (bus 0x800000000#36 (ref { at_ .idle [lo 0] with clock := 1003 }))) (fun t => t.clock) = some 1003 := by decide

/-- ENV-S of 95: `WAIT` does nothing observable on the clock that `NOW` reads. -/
theorem test_general_wait :
    look (step (bus 0x800004E20#36 (at_ .idle [lo 0]))) (fun t => (t.clock, t.trace)) =
      some (0, [⟨.idle, .wait, 20000#32, .empty⟩]) := by decide

/-- CO9. -/
theorem test_now :
    look (step (bus 0x900000000#36 { at_ .idle [lo 0] with clock := 21016 })) (fun t => (t.clock, t.trace)) =
      some (21016, [⟨.idle, .now, 0#32, .time 21016⟩]) := by decide

/-! ## The handshake (95 2.3) -/

/-- The word, the line and the next micro-state of the seven control steps, from the listing of 95 2.3. -/
def control (s : State) : Option (List (BitVec 36) × MicroState) :=
  look (step s) (fun t => (t.trace.map (fun e => e.op.word e.arg), t.upc))

theorem test_hOut : control (at_ .hOut [lo 1]) = some ([0x100000000#36], .hHi0) := by decide
theorem test_hHi0 : control (out_ .hHi0 .low [lo 1]) = some ([0x300000000#36], .hLo) := by decide
theorem test_hLo : control (out_ .hLo .high [lo 1]) = some ([0x400000000#36], .hHold) := by decide
theorem test_hHold : control (out_ .hHold .low [lo 1]) = some ([0x800004E20#36], .hHi1) := by decide
theorem test_hHi1 : control (out_ .hHi1 .low [lo 1]) = some ([0x300000000#36], .hRel) := by decide
theorem test_hRel : control (out_ .hRel .high [lo 1]) = some ([0x80000000A#36], .hIn) := by decide
theorem test_hIn : control (out_ .hIn .high [lo 1]) = some ([0x200000000#36], .hW1T) := by decide

/-- LW1, HS1, HS3, SB4: the entry read. -/
theorem test_hW1T : look (step (at_ .hW1T [lo 500])) (fun t => (t.tEntry, t.upc)) = some (500, .hW1Q) := by decide
theorem test_hW2T : look (step (at_ .hW2T [lo 101])) (fun t => (t.tEntry, t.upc)) = some (101, .hW2Q) := by decide
theorem test_hW3T : look (step (at_ .hW3T [lo 102])) (fun t => (t.tEntry, t.upc)) = some (102, .hW3Q) := by decide
theorem test_sWhT : look (step (at_ .sWhT [lo 900])) (fun t => (t.tEntry, t.upc)) = some (900, .sWhQ) := by decide
theorem test_sWlT :
    look (step { at_ .sWlT [lo 1] with tRec := 105, clock := 105 }) (fun t => (t.tEntry, t.tRec, t.upc)) =
      some (106, 105, .sWlQ) := by decide

/-- HS1 and HS3: `H_W1` and `H_W3` wait for low, `H_W2` and `S_WH` for high, `S_WL` for low; a false answer goes to the
deadline check. -/
theorem test_hW1Q : look (step (at_ .hW1Q [lo 0])) (·.upc) = some .hW2T ∧
    look (step (at_ .hW1Q [hi 0])) (·.upc) = some .hW1C := by decide
theorem test_hW2Q : look (step (at_ .hW2Q [hi 0])) (·.upc) = some .hW3T ∧
    look (step (at_ .hW2Q [lo 0])) (·.upc) = some .hW2C := by decide
theorem test_hW3Q : look (step (at_ .hW3Q [lo 0])) (·.upc) = some .sWhT ∧
    look (step (at_ .hW3Q [hi 0])) (·.upc) = some .hW3C := by decide
theorem test_sWhQ : look (step (at_ .sWhQ [hi 0])) (·.upc) = some .sRec ∧
    look (step (at_ .sWhQ [lo 0])) (·.upc) = some .sWhC := by decide
theorem test_sWlQ : look (step (at_ .sWlQ [lo 0])) (·.upc) = some .sCls ∧
    look (step (at_ .sWlQ [hi 0])) (·.upc) = some .sWlC := by decide

/-- LW2: at the deadline the wait goes on, one past it the wait fails. -/
theorem test_hW1C :
    look (step { at_ .hW1C [lo 1000000] with tEntry := 500, clock := 500 }) (·.upc) = some .hW1Q ∧
      look (step { at_ .hW1C [lo 1000001] with tEntry := 500, clock := 500 }) (·.upc) = some .errTimeout := by decide

/-- HS2. -/
theorem test_hW2C :
    look (step { at_ .hW2C [lo 1000001] with tEntry := 101, clock := 101 }) (fun t => (t.upc, t.tEntry)) =
      some (.errTimeout, 0) := by decide

/-- HS4. -/
theorem test_hW3C :
    look (step { at_ .hW3C [lo 1000000] with tEntry := 102, clock := 102 }) (fun t => (t.upc, t.tEntry)) =
      some (.hW3Q, 102) := by decide

/-- LW7: a timeout discards the captured bits. -/
theorem test_sWhC :
    look (step { at_ .sWhC [lo 1000001] with
        tEntry := 900, clock := 900, idx := 5#6, bits := (Vector.replicate 40 false).set 0 true })
      (fun t => (t.upc, t.idx, t.bits[0], t.tEntry)) = some (.errTimeout, 0#6, false, 0) := by decide

/-- SB7. -/
theorem test_sWlC :
    look (step { at_ .sWlC [lo 1000001] with tEntry := 106, tRec := 105, clock := 106, idx := 3#6 })
      (fun t => (t.upc, t.idx, t.tRec)) = some (.errTimeout, 0#6, 0) := by decide

/-! ## The bit sampler (95 2.4) -/

/-- SB1. -/
theorem test_sRec :
    look (step { at_ .sRec [lo 5] with tEntry := 100, clock := 100 }) (fun t => (t.tRec, t.tEntry, t.upc)) =
      some (105, 100, .sWlT) := by decide

/-- SB1 and SB2: 49 is bit 0, 50 is bit 1. -/
theorem test_sCls_threshold :
    look (step { at_ .sCls [lo 49] with tRec := 105, clock := 105 }) (fun t => (t.bits[0], t.idx, t.upc)) =
        some (false, 1#6, .sWhT) ∧
      look (step { at_ .sCls [lo 50] with tRec := 105, clock := 105 }) (fun t => (t.bits[0], t.idx, t.upc)) =
        some (true, 1#6, .sWhT) := by decide

/-- SB4: the last bit. -/
theorem test_sCls_last :
    look (step { at_ .sCls [lo 35] with tRec := 105, clock := 140, idx := 39#6 })
      (fun t => (t.bits[39], t.bits[38], t.idx, t.upc)) = some (true, false, 40#6, .vPack) := by decide

/-! ## The frame and the Reading (95 2.5 to 2.7) -/

/-- The first byte's bits, the rest clear. -/
def firstByte (a b c d e f g h : Bool) : Vector Bool 40 :=
  ((((((((Vector.replicate 40 false).set 0 a).set 1 b).set 2 c).set 3 d).set 4 e).set 5 f).set 6 g).set 7 h

/-- PK1 (S1): 10101010 is 170. -/
theorem test_vPack :
    look (step { at_ .vPack [] with bits := firstByte true false true false true false true false })
      (fun t => (t.frame.b0, t.frame.b1, t.upc)) = some (170#8, 0#8, .vChk) := by decide

/-- PK3 and PK4: index 0 of a group weighs 128, index 7 weighs 1; bit 32 opens the checksum byte. -/
theorem test_vPack_weights :
    (packFrame ((Vector.replicate 40 false).set 0 true)).b0 = 128#8 ∧
      (packFrame ((Vector.replicate 40 false).set 7 true)).b0 = 1#8 ∧
      (packFrame ((Vector.replicate 40 false).set 8 true)).b1 = 128#8 ∧
      (packFrame ((Vector.replicate 40 false).set 32 true)).b4 = 128#8 := by decide

/-- CK1, CK4, CK5, CK6: accepted frames. -/
theorem test_vChk_pass :
    look (step { at_ .vChk [] with frame := frameOf 0x30 0x00 0x17 0x08 0x4F }) (·.upc) = some .cConv ∧
      look (step { at_ .vChk [] with frame := frameOf 0xC8 0x64 0x32 0x0A 0x68 }) (·.upc) = some .cConv ∧
      look (step { at_ .vChk [] with frame := frameOf 0xFF 0xFF 0xFF 0xFF 0xFC }) (·.upc) = some .cConv ∧
      look (step { at_ .vChk [] with frame := frameOf 0x80 0x80 0x00 0x00 0x00 }) (·.upc) = some .cConv := by decide

/-- CK2, CK3, CK8: refused frames, and EX2: nothing of them stays. -/
theorem test_vChk_fail :
    look (step { at_ .vChk [] with frame := frameOf 0x30 0x00 0x17 0x08 0x4E, idx := 40#6 })
        (fun t => (t.upc, t.frame, t.idx, t.status)) = some (.errChecksum, Frame.zero, 0#6, 0xA#32) ∧
      look (step { at_ .vChk [] with frame := frameOf 0x30 0x00 0x17 0x08 0x50 }) (·.upc) = some .errChecksum ∧
      look (step { at_ .vChk [] with frame := frameOf 0xFF 0xFF 0xFF 0xFF 0xFF }) (·.upc) = some .errChecksum := by
  decide

/-- CV1 (S3). -/
theorem test_cConv :
    look (step { at_ .cConv [] with frame := frameOf 0x30 0x00 0x17 0x08 0x4F }) (fun t => (t.hum, t.temp, t.upc)) =
      some (480#12, 238#12, .done) := by decide

/-- CV5 and CV6: the largest value, and a decimal byte above 9. -/
theorem test_cConv_extremes :
    look (step { at_ .cConv [] with frame := frameOf 0xFF 0xFF 0xFF 0xFF 0xFC }) (fun t => (t.hum, t.temp)) =
        some (2805#12, 2805#12) ∧
      look (step { at_ .cConv [] with frame := frameOf 0x30 0x0F 0x17 0x08 0x5E }) (·.hum) = some 495#12 := by decide

/-! ## Rest, START, the host port, reset (95 2.8 to 2.10) -/

theorem test_idle : step (at_ .idle []) = .next (at_ .idle []) := rfl
theorem test_done : step (at_ .done []) = .next (at_ .done []) := rfl
theorem test_errTimeout : step (at_ .errTimeout []) = .next (at_ .errTimeout []) := rfl
theorem test_errChecksum : step (at_ .errChecksum []) = .next (at_ .errChecksum []) := rfl

/-- HO2, HO5, HO11: START clears an old Reading at once, whatever the ignored bits. -/
theorem test_start :
    look (step { at_ .done [] with hum := 480#12, agenda := [.hostWrite 0 0xFFFFFFFF#32] })
      (fun t => (t.upc, t.hum, t.status)) = some (.hOut, 0#12, 0x1#32) := by decide

/-- HO6. -/
theorem test_start_busy :
    look (step { at_ .hHold [] with agenda := [.hostWrite 0 1#32] }) (·.upc) = some .hHold := by decide

/-- HO3, HO4, HO12: host writes that do nothing. -/
theorem test_host_writes_ignored :
    look (step { at_ .idle [] with agenda := [.hostWrite 0 0xFFFFFFFE#32] }) (·.upc) = some .idle ∧
      look (step { at_ .idle [] with agenda := [.hostWrite 1 1#32] }) (·.upc) = some .idle := by decide

/-- HO7: the host reads a Reading. -/
theorem test_host_reads :
    look (step { at_ .done [] with hum := 480#12, temp := 238#12, agenda := [.hostRead 2] }) (·.hostRdata) =
        some 0x1E0#32 ∧
      look (step { at_ .done [] with hum := 480#12, temp := 238#12, agenda := [.hostRead 3] }) (·.hostRdata) =
        some 0xEE#32 ∧
      look (step { at_ .done [] with agenda := [.hostRead 1] }) (·.hostRdata) = some 0x2#32 := by decide

/-- RS2: reset in `H_HOLD` leaves the pin driving low. -/
theorem test_reset_in_hold :
    look (step { out_ .hHold .low [] with tRec := 9, agenda := [.reset false none] })
      (fun t => (t.upc, t.tRec, t.pinMode, t.pinOut)) = some (.idle, 0, .output, .low) := by decide

/-- RS5: reset wins over a START of the same cycle. -/
theorem test_reset_wins :
    look (step { at_ .idle [] with agenda := [.reset false (some (0, 1#32))] }) (fun t => (t.upc, t.agenda)) =
      some (.idle, []) := by decide

/-! ## The host's two questions -/

theorem test_table_words :
    decodeTableWord 5 27 = some .cConv ∧ decodeTableWord 8 27 = some .cConv ∧ decodeTableWord 32 1 = some (.start 0#31) ∧
      decodeTableWord 36 0x800004E20 = some (.wait 20000#32) ∧ decodeTableWord 40 0x900000000 = some (.now 0#32) ∧
      decodeTableWord 5 31 = none ∧ decodeTableWord 40 0x700000000 = none ∧ decodeTableWord 32 2 = none := by decide

theorem test_placed_cConv : look (step (State.reset.withFetchWord 5 27)) (·.upc) = some .done := by decide
theorem test_placed_start : look (step (State.reset.withFetchWord 32 1)) (·.upc) = some .hOut := by decide
theorem test_placed_wait : look (step (State.reset.withFetchWord 36 0x800004E20)) (fun t => t.trace.map (·.op)) =
    some [.wait] := by decide

/-! ## Witnesses: for every statement with hypotheses, a state and operands that meet all of them -/

theorem witness_EncodeOfDecodeIsIdentity : decode (.cap 0x800004E20#36) = .ok (.wait 20000#32) ∧
    decode (.useq 27#5) = .ok .cConv ∧ decode (.host 3#32) = .ok (.start 1#31) := by decide

theorem witness_ReservedWordsAreRefused :
    (0x700000000#36).extractLsb' 32 4 ∈ [0#4, 7#4, 10#4, 11#4, 12#4, 13#4, 14#4, 15#4] ∧
      (bus 0x700000000#36 State.reset).turn = .busWord 0x700000000#36 := by decide

theorem witness_StepRunsDecodedInstruction :
    fetch (at_ .cConv []) = .word (.useq 27#5) (at_ .cConv []) ∧ decode (.useq 27#5) = .ok .cConv ∧
      (at_ .cConv []).turn = .core ∧
      ({ State.reset with agenda := [.hostWrite 0 1#32] } : State).turn = .hostWrite 0 1#32 ∧
      (bus 0x900000000#36 State.reset).turn = .busWord 0x900000000#36 := by decide

theorem witness_PlacedWordRunsNext : decodeTableWord 5 27 = some .cConv := by decide

/-- Reset without the withdrawn operation; START in a state at rest. -/
theorem witness_ResetValues :
    ({ out_ .hHold .low [] with agenda := [.reset false none] } : State).turn = .reset false none ∧
      State.reset.busy = false := by decide

/-- Reset while `WAIT(20000)` is presented, with and without its completion; and in a micro-state that presents none. -/
theorem witness_ResetWinsOverEverything :
    ({ out_ .hHold .low [] with agenda := [.reset true (some (0, 1#32))] } : State).turn =
        .reset true (some (0, 1#32)) ∧
      issuedBy (out_ .hHold .low []).params (out_ .hHold .low []).upc = some (.wait, 20000#32) ∧
      issuedBy (at_ .vChk []).params (at_ .vChk []).upc = none := by decide

theorem witness_SetModeOperations : (out_ .hHi0 .high []).pinOut = .high ∧ (out_ .hHi0 .low []).pinOut = .low ∧
    issuedBy Config.defaults .hOut = some (.setModeOutput, 0#32) ∧
    issuedBy Config.defaults .hIn = some (.setModeInput, 0#32) := by decide

/-- In output mode, in input mode, and before the first `SET_MODE_*`. -/
theorem witness_DriveOperations : (out_ .hHi0 .low []).pinMode = .output ∧ (at_ .hHi0 []).pinMode ≠ .output ∧
    State.reset.pinMode ≠ .output ∧
    issuedBy Config.defaults .hHi1 = some (.driveHigh, 0#32) ∧ issuedBy Config.defaults .hLo = some (.driveLow, 0#32) := by
  decide

theorem witness_QueryOperations : (at_ .hW1Q []).params.environment = .general ∧
    (ref (at_ .hW1Q [])).params.environment = .reference ∧
    (at_ .hW1Q []).pinMode ≠ .output ∧ State.reset.pinMode ≠ .output ∧
    issuedBy Config.defaults .sWhQ = some (.queryHigh, 0#32) ∧
    issuedBy Config.defaults .sWlQ = some (.queryLow, 0#32) := by decide

theorem witness_WaitOperation : State.reset.params.environment = .general ∧
    (ref State.reset).params.environment = .reference ∧
    issuedBy Config.defaults .hHold = some (.wait, 20000#32) ∧
    issuedBy Config.defaults .hRel = some (.wait, 10#32) := by decide

theorem witness_NowOperation : issuedBy Config.defaults .sCls = some (.now, 0#32) ∧ State.reset.clock ≤ 100 := by decide

/-- A word with an argument that the operation ignores. -/
theorem witness_CapabilityOperationsLeaveTheCore :
    decode (.cap 0x300000001#36) = .ok (.driveHigh 1#32) ∧ decode (.cap 0x9FFFFFFFF#36) = .ok (.now 0xFFFFFFFF#32) := by
  decide

/-- A micro-operation that issues and one that does not. -/
theorem witness_MicroOperationsIssueTheirRow :
    exec (MicroState.instr .hLo) State.reset = .next (controlStep .driveLow 0#32 .hHold State.reset) ∧
      exec (MicroState.instr .idle) State.reset = .next State.reset := ⟨rfl, rfl⟩

theorem witness_StartPulseOnTheLine : (out_ .hLo .high []).upc = .hLo ∧ (out_ .hLo .high []).agenda = [] ∧
    (out_ .hLo .high []).pinMode = .output ∧ (ref (out_ .hLo .high [])).params.environment = .reference := by decide

/-- The five instances are met by their own micro-states. -/
theorem witness_waitInstances : waitInstances.length = 5 ∧
    waitInstances.map (·.entry) = [.hW1T, .hW2T, .hW3T, .sWhT, .sWlT] ∧
    waitInstances.map (·.target) = [.low, .high, .low, .high, .low] := by decide

/-- A check exactly at the deadline and one microsecond past it. -/
theorem witness_DeadlineIsChecked :
    (State.servedClock { at_ .hW1C [lo 1000000] with tEntry := 500, clock := 500 } .now 0#32) = 500 + 1000000 ∧
      (State.servedClock { at_ .hW1C [lo 1000001] with tEntry := 500, clock := 500 } .now 0#32) = 500 + 1000001 := by
  decide

/-- One round that misses, with the check exactly at the deadline, and then the level (LW4). -/
def waitAtDeadline : WaitStim := { entry := lo 500, misses := [(hi 0, lo 1000000)], hit := lo 0 }

/-- The first query sees the level (LW1). -/
def waitAtOnce (l : Level) : WaitStim := { entry := lo 1, misses := [], hit := ⟨0, l⟩ }

theorem witness_LevelWaitSucceedsAtItsQuery :
    ⟨.hW1T, .hW1Q, .hW1C, .hW2T, .low⟩ ∈ waitInstances ∧
      (at_ .hW1T (waitAtDeadline.moves ++ [hi 3])).script = waitAtDeadline.moves ++ [hi 3] ∧
      Hears (at_ .hW1T (waitAtDeadline.moves ++ [hi 3])) ∧ Hears (ref (at_ .hW1T (waitAtDeadline.moves ++ [hi 3]))) ∧
      waitAtDeadline.Succeeds .low (at_ .hW1T []).params.tTimeoutUs := by
  refine ⟨by decide, rfl, .inl rfl, .inr (by decide), ?_⟩
  simp [WaitStim.Succeeds, waitAtDeadline, missTime, at_, State.reset, Config.defaults, lo, hi]

/-- LW2: one round ends at the deadline, the next one microsecond past it. -/
theorem witness_LevelWaitTimesOut :
    (at_ .hW1T (lo 500 :: (missMoves ([(hi 0, lo 1000000)] ++ [(hi 0, lo 1)]) ++ []))).script =
        lo 500 :: (missMoves ([(hi 0, lo 1000000)] ++ [(hi 0, lo 1)]) ++ []) ∧
      (∀ r ∈ [(hi 0, lo 1000000)] ++ [(hi 0, lo 1)], r.1.level ≠ .low) ∧
      missTime [(hi 0, lo 1000000)] ≤ (at_ .hW1T []).params.tTimeoutUs ∧
      (at_ .hW1T []).params.tTimeoutUs < missTime ([(hi 0, lo 1000000)] ++ [(hi 0, lo 1)]) := by
  refine ⟨rfl, by decide, by decide, by decide⟩

/-- A deadline passed by one microsecond; a checksum byte one too small. -/
theorem witness_ErrorEntryClearsTheDatapath :
    ({ at_ .hW1C [lo 1000001] with tEntry := 500, clock := 500 } : State).tEntry + 1000000 <
        State.servedClock { at_ .hW1C [lo 1000001] with tEntry := 500, clock := 500 } .now 0#32 ∧
      (0x4E#8).toNat ≠ ((0x30#8).toNat + (0x00#8).toNat + (0x17#8).toNat + (0x08#8).toNat) % 256 := by decide

/-- Two states that differ in their registers only and both raise Timeout, and both ChecksumError. -/
theorem witness_ErrorEntryForgetsTheReadout :
    EnvironmentSame (at_ .sWhC [lo 1000009]) { at_ .sWhC [lo 1000009] with tEntry := 8, idx := 7#6 } ∧
      SurroundingsSame (at_ .sWhC [lo 1000009]) { at_ .sWhC [lo 1000009] with tEntry := 8, idx := 7#6 } ∧
      0 + 1000000 < (at_ .sWhC [lo 1000009]).servedClock .now 0#32 ∧
      8 + 1000000 < State.servedClock { at_ .sWhC [lo 1000009] with tEntry := 8, idx := 7#6 } .now 0#32 ∧
      (frameOf 0 0 0 0 1).valid = false ∧ (frameOf 1 0 0 0 0).valid = false := by
  refine ⟨⟨rfl, rfl, rfl, rfl, rfl, rfl, rfl⟩, ⟨rfl, rfl, rfl⟩, by decide, by decide, by decide, by decide⟩

/-- A step that enters each error micro-state. -/
theorem witness_ErrorsComeOnlyFromTheirChecks :
    (∃ t, step { at_ .sWlC [lo 1000001] with tEntry := 106, clock := 106 } = .next t ∧ t.upc = .errTimeout) ∧
      (∃ t, step { at_ .vChk [] with frame := frameOf 0 0 0 0 1 } = .next t ∧ t.upc = .errChecksum) :=
  ⟨⟨_, rfl, rfl⟩, ⟨_, rfl, rfl⟩⟩

/-- The parameter that makes a long elapsed time a fault. -/
def strict (s : State) : State := { s with params := { s.params with elapsedViolation := .fault } }

/-- The first and the last cell, with the clock at `T_REC` itself; with the parameter set, an elapsed time one below the
timeout. -/
theorem witness_BitIsClassifiedAndStored :
    Classifies (at_ .sCls []).params 1000000 ∧ Classifies (strict (at_ .sCls [])).params 999999 ∧
      ¬Classifies (strict (at_ .sCls [])).params 1000000 ∧ (strict (at_ .sCls [lo 999999])).servedClock .now 0#32 - 0 =
        999999 ∧ (at_ .sCls []).idx.toNat = 0 ∧
      (at_ .sCls []).tRec ≤ (at_ .sCls []).clock ∧
      ({ at_ .sCls [] with idx := 39#6, tRec := 105, clock := 105 } : State).idx.toNat ≤ 39 := by
  refine ⟨.inl rfl, .inr (by decide), ?_, by decide, by decide, by decide, by decide⟩
  rintro (h | h)
  · cases h
  · exact absurd h (by decide)

/-- The stored bit and the next micro-state with the parameter set, one microsecond below the timeout. -/
theorem test_sCls_strict :
    look (step (strict (at_ .sCls [lo 999999]))) (fun t => (t.bits[0], t.idx, t.upc)) = some (true, 1#6, .sWhT) := by
  decide

/-- SB5: an elapsed time exactly at the timeout under either reading, and one just below it. -/
theorem witness_LongElapsedTimeFollowsTheParameter :
    State.servedClock (at_ .sCls [lo 1000000]) .now 0#32 - (at_ .sCls []).tRec = 1000000 ∧
      State.servedClock (at_ .sCls [lo 999999]) .now 0#32 - (at_ .sCls []).tRec = 999999 ∧
      (at_ .sCls []).params.tThresholdUs ≤ (at_ .sCls []).params.tTimeoutUs ∧
      step { at_ .sCls [lo 1000000] with params := { Config.defaults with elapsedViolation := .fault } } =
        .fault .elapsedViolation :=
  ⟨rfl, rfl, by decide, rfl⟩

/-- A clock one behind `T_REC`; an `IDX` of 40. -/
theorem witness_SamplerStopsOutsideItsPremises :
    State.servedClock { at_ .sCls [lo 0] with tRec := 1 } .now 0#32 < 1 ∧
      40 ≤ ({ at_ .sCls [lo 0] with idx := 40#6 } : State).idx.toNat ∧
      step { at_ .sCls [lo 0] with idx := 40#6 } = .fault .bitIndexOutOfRange :=
  ⟨by decide, by decide, rfl⟩

/-- A bit whose waits succeed at once and whose elapsed time is the threshold: a 1. -/
def bitOf (elapsed : Nat) : BitStim :=
  { rise := waitAtOnce .high, record := lo 0, fall := { entry := lo 0, misses := [], hit := lo 0 }, close := lo elapsed }

theorem bitOf_succeeds (elapsed timeout : Nat) : (bitOf elapsed).Succeeds timeout := by
  simp [BitStim.Succeeds, bitOf, WaitStim.Succeeds, waitAtOnce, missTime, lo]

/-- The last bit, elapsed time 50. -/
theorem witness_OneBitIsSampled :
    ({ at_ .sWhT ((bitOf 50).moves ++ []) with idx := 39#6 } : State).idx.toNat = 39 ∧
      ({ at_ .sWhT ((bitOf 50).moves ++ []) with idx := 39#6 } : State).script = (bitOf 50).moves ++ [] ∧
      (bitOf 50).elapsed = 50 ∧ Classifies (at_ .sWhT []).params (bitOf 50).elapsed ∧
      Classifies (strict (at_ .sWhT [])).params (bitOf 50).elapsed ∧ Hears (at_ .sWhT []) ∧ (bitOf 50).Succeeds (at_ .sWhT []).params.tTimeoutUs :=
  ⟨by decide, rfl, rfl, .inl rfl, .inr (by decide), .inl rfl, bitOf_succeeds _ _⟩

/-- CK1 passes and CK2 does not. -/
theorem witness_ChecksumIsChecked :
    (0x4F#8).toNat = ((0x30#8).toNat + (0x00#8).toNat + (0x17#8).toNat + (0x08#8).toNat) % 256 ∧
      (0x4E#8).toNat ≠ ((0x30#8).toNat + (0x00#8).toNat + (0x17#8).toNat + (0x08#8).toNat) % 256 := by decide

theorem witness_ChecksumDetectsOneByte : (frameOf 0x30 0x00 0x17 0x08 0x4F).valid = true ∧
    (0x31#8 : Byte) ≠ (frameOf 0x30 0x00 0x17 0x08 0x4F).b0 := by decide

/-- The four micro-states at rest. -/
theorem witness_RestMicroStatesChangeNothing : (at_ .idle []).upc = .idle ∧ (at_ .done []).upc = .done ∧
    (at_ .errTimeout []).upc = .errTimeout ∧ (at_ .errChecksum []).upc = .errChecksum := by decide

/-- A rest left by reset, by START, and kept by the core's own turn. -/
theorem witness_OnlyStartOrResetLeavesRest :
    (∃ t, step { at_ .done [] with agenda := [.reset false none] } = .next t) ∧
      (∃ t, step { at_ .done [] with agenda := [.hostWrite 0 1#32] } = .next t) ∧
      (∃ t, step (at_ .done []) = .next t) ∧ (at_ .done []).busy = false :=
  ⟨⟨_, rfl⟩, ⟨_, rfl⟩, ⟨_, rfl⟩, rfl⟩

theorem witness_StartBeginsAReadout :
    ({ at_ .done [] with agenda := [.hostWrite 0 0xFFFFFFFF#32] } : State).turn = .hostWrite 0 0xFFFFFFFF#32 ∧
    (0xFFFFFFFF#32)[0] = true ∧ (at_ .idle []).busy = false ∧ (at_ .done []).busy = false ∧
    (at_ .errTimeout []).busy = false ∧ (at_ .errChecksum []).busy = false := by decide

/-- The first and the last busy micro-state. -/
theorem witness_StartWhileBusyIsIgnored : (at_ .hOut []).busy = true ∧ (at_ .cConv []).busy = true := by decide

/-- A fresh core and one that holds an old Reading. -/
theorem witness_StartForgetsHistory :
    (at_ .idle []).busy = false ∧ ({ at_ .done [] with hum := 480#12, idx := 40#6 } : State).busy = false ∧
      EnvironmentSame (at_ .idle []) { at_ .done [] with hum := 480#12, idx := 40#6 } ∧
      SurroundingsSame (at_ .idle []) { at_ .done [] with hum := 480#12, idx := 40#6 } :=
  ⟨rfl, rfl, ⟨rfl, rfl, rfl, rfl, rfl, rfl, rfl⟩, ⟨rfl, rfl, rfl⟩⟩

theorem witness_HostPortReadsAndWrites :
    ({ State.reset with agenda := [.hostRead 4] } : State).turn = .hostRead 4 ∧
      ({ State.reset with agenda := [.hostWrite 1 1#32] } : State).turn = .hostWrite 1 1#32 ∧
      ({ State.reset with agenda := [.hostWrite 0 2#32] } : State).turn = .hostWrite 0 2#32 ∧ (2#32)[0] = false := by
  decide

/-- Each clause of the table: a rest, a move on, a query, a check, the last bit and one before it, the validator, START,
an ignored write, reset. -/
theorem witness_NextStateTable :
    (at_ .errChecksum []).upc.code.toNat = 30 ∧ (at_ .hIn []).upc.code.toNat = 7 ∧ (at_ .sRec []).upc.code.toNat = 20 ∧
      (at_ .sWlQ []).upc.code.toNat = 22 ∧ (at_ .sWlC []).upc.code.toNat = 23 ∧ (at_ .sCls []).upc.code.toNat = 24 ∧
      Classifies (at_ .sCls []).params 1000000 ∧ Classifies (strict (at_ .sCls [])).params 999999 ∧ (39#6).toNat ≤ 39 ∧ (38#6).toNat ≤ 39 ∧
      (at_ .vChk []).upc.code.toNat = 26 ∧ (at_ .vChk []).turn = .core ∧
      ({ at_ .done [] with agenda := [.hostWrite 0 1#32] } : State).turn = .hostWrite 0 1#32 ∧
      ({ at_ .hOut [] with agenda := [.hostWrite 0 1#32] } : State).busy = true ∧
      ({ at_ .done [] with agenda := [.hostRead 1] } : State).turn = .hostRead 1 ∧
      ({ at_ .sCls [] with agenda := [.reset true none] } : State).turn = .reset true none := by
  simp only [Classifies]
  decide

/-- A step that clears and one that does not. -/
theorem witness_RegisterWriters :
    (∃ t, step { at_ .sCls [] with agenda := [.reset false none] } = .next t ∧
        ClearingEvent { at_ .sCls [] with agenda := [.reset false none] } t) ∧
      (∃ t, step (at_ .vPack []) = .next t ∧ ¬ClearingEvent (at_ .vPack []) t) := by
  refine ⟨⟨_, rfl, .inl ⟨false, none, rfl⟩⟩, ⟨_, rfl, ?_⟩⟩
  rintro (⟨c, w, h⟩ | ⟨d, h, _⟩ | ⟨_, _, h | h⟩) <;> cases h

/-- Forty bits whose bytes pass the check, and forty that do not. -/
theorem witness_FortyBitsDecideTheOutcome :
    (packFrame (at_ .vPack []).bits).valid = true ∧
      (packFrame ((Vector.replicate 40 false).set 39 true)).valid = false ∧ (at_ .vPack []).hum = 0#12 ∧
      (at_ .vPack []).temp = 0#12 := by decide

/-- Forty bits that are each 50 microseconds long but the last two, 49: the frame `FF FF FF FF FC` of P5a. -/
def readoutP5a : ReadoutStim :=
  { control := List.replicate 7 (lo 0)
    w1 := waitAtOnce .low
    w2 := waitAtOnce .high
    w3 := waitAtOnce .low
    bits := List.replicate 38 (bitOf 50) ++ List.replicate 2 (bitOf 49) }

/-- The bits of P5a. -/
def bitsP5a : Vector Bool 40 := ((Vector.replicate 40 true).set 38 false).set 39 false

theorem readoutP5a_succeeds : readoutP5a.Succeeds Config.defaults.tTimeoutUs := by
  refine ⟨rfl, ?_, ?_, ?_, ?_⟩
  · simp [readoutP5a, waitAtOnce, WaitStim.Succeeds, missTime]
  · simp [readoutP5a, waitAtOnce, WaitStim.Succeeds, missTime]
  · simp [readoutP5a, waitAtOnce, WaitStim.Succeeds, missTime]
  · intro b hb
    simp only [readoutP5a, List.mem_append, List.mem_replicate] at hb
    rcases hb with ⟨_, rfl⟩ | ⟨_, rfl⟩ <;> exact bitOf_succeeds _ _

/-- P5a: START at rest, the shortest readout, the largest Reading. -/
theorem witness_WholeReadout :
    ({ State.reset with agenda := [.hostWrite 0 1#32], script := readoutP5a.moves ++ [] } : State).busy = false ∧
      (1#32)[0] = true ∧ readoutP5a.Succeeds Config.defaults.tTimeoutUs ∧
      (∀ b ∈ readoutP5a.bits, Classifies Config.defaults b.elapsed) ∧
      bitsP5a.toList = readoutP5a.sampled Config.defaults.tThresholdUs ∧
      packFrame bitsP5a = frameOf 0xFF 0xFF 0xFF 0xFF 0xFC ∧ readoutP5a.queries = 83 :=
  ⟨rfl, rfl, readoutP5a_succeeds, fun _ _ => .inl rfl, by decide, by decide, by decide⟩

/-- P5a with every bit 50 microseconds long: the frame of CK8, which is refused. -/
theorem witness_WholeReadout_refused :
    { readoutP5a with bits := List.replicate 40 (bitOf 50) }.Succeeds Config.defaults.tTimeoutUs ∧
      (Vector.replicate 40 true).toList =
        { readoutP5a with bits := List.replicate 40 (bitOf 50) }.sampled Config.defaults.tThresholdUs ∧
      (packFrame (Vector.replicate 40 true)).valid = false := by
  refine ⟨⟨rfl, readoutP5a_succeeds.2.1, readoutP5a_succeeds.2.2.1, readoutP5a_succeeds.2.2.2.1, ?_⟩, by decide, by decide⟩
  intro b hb
  rw [List.mem_replicate] at hb
  rw [hb.2]
  exact bitOf_succeeds _ _

/-- The environment of P2: one microsecond an operation, and a line that stays high for ever. -/
def absent (s : State) : State := { s with lasting := some (hi 1) }

theorem timeAfter_absent (m : MicroState) (n : Nat) : timeAfter (absent (at_ m [])) n = n := by
  induction n with
  | zero => rfl
  | succ n ih => rw [timeAfter, ih]; rfl

theorem progress_absent (m : MicroState) : Progress (absent (at_ m [])) :=
  ⟨operationsComplete, fun bound => ⟨bound + 1, by rw [timeAfter_absent]; omega⟩⟩

/-- Each of the three places a level-wait can stand in, the first micro-state of a readout, and the parameter set. -/
theorem witness_ProgressEndsEveryWaitAndReadout :
    (Progress (absent (at_ .hW1T [])) ∧ Progress (absent (at_ .hW1Q [])) ∧ Progress (absent (at_ .hW1C [])) ∧
      (absent (at_ .hW1T [])).agenda = []) ∧
    (Progress (absent (at_ .hOut [])) ∧ (absent (at_ .hOut [])).busy = true ∧ CountOk (absent (at_ .hOut [])) ∧
      ClockOk (absent (at_ .hOut []))) ∧
    (strict (absent (at_ .hOut []))).params.elapsedViolation = .fault := by
  refine ⟨⟨progress_absent _, progress_absent _, progress_absent _, rfl⟩,
    ⟨progress_absent _, rfl, ?_, ⟨Nat.le_refl _, Nat.le_refl _⟩⟩, rfl⟩
  simp [CountOk, absent, at_, State.reset, MicroState.code]

/-- The state after reset meets every invariant, and takes a step. -/
theorem witness_reset_step : ∃ t, step State.reset = .next t := ⟨_, rfl⟩

theorem witness_ClockInvariantKept : ClockOk { at_ .sCls [lo 49] with tRec := 105, clock := 105 } ∧
    ∃ t, step { at_ .sCls [lo 49] with tRec := 105, clock := 105 } = .next t :=
  ⟨⟨Nat.zero_le _, Nat.le_refl _⟩, ⟨_, rfl⟩⟩

/-- The last bit before the frame is packed. -/
theorem witness_CountInvariantKept : CountOk { at_ .sCls [lo 49] with idx := 39#6 } ∧
    ∃ t, step { at_ .sCls [lo 49] with idx := 39#6 } = .next t := by
  refine ⟨by simp [CountOk, at_, MicroState.code], ⟨_, rfl⟩⟩

theorem witness_CaptureInvariantKept : CountOk { at_ .vPack [] with idx := 40#6 } ∧
    CaptureOk { at_ .vPack [] with idx := 40#6 } ∧ ∃ t, step { at_ .vPack [] with idx := 40#6 } = .next t := by
  refine ⟨by simp [CountOk, at_, MicroState.code], ?_, ⟨_, rfl⟩⟩
  simp [CaptureOk, at_, State.reset, MicroState.code]

theorem witness_ReadingInvariantKept :
    ReadingOk { at_ .cConv [] with frame := frameOf 0x30 0x00 0x17 0x08 0x4F } ∧
      ∃ t, step { at_ .cConv [] with frame := frameOf 0x30 0x00 0x17 0x08 0x4F } = .next t := by
  refine ⟨⟨fun _ => ⟨rfl, rfl⟩, fun _ => by decide, fun h => by cases h⟩, ⟨_, rfl⟩⟩

theorem witness_RestInvariantKept : RestOk { at_ .vChk [] with frame := frameOf 0 0 0 0 1, tRec := 7 } ∧
    ∃ t, step { at_ .vChk [] with frame := frameOf 0 0 0 0 1, tRec := 7 } = .next t := by
  refine ⟨by simp [RestOk, at_, MicroState.code], ⟨_, rfl⟩⟩

theorem witness_ModeDisciplineKept : CoreOnly (out_ .hIn .high [lo 0]) ∧ PinOk (out_ .hIn .high [lo 0]) ∧
    (∃ t, step (out_ .hIn .high [lo 0]) = .next t) ∧ PinOk (at_ .hW1Q []) ∧ PinOk (at_ .done []) := by
  refine ⟨by simp [CoreOnly, out_, State.reset], by simp [PinOk, out_, MicroState.code], ⟨_, rfl⟩, ?_, ?_⟩ <;>
    simp [PinOk, at_, MicroState.code]

theorem witness_DrivenLineInvariantKept : LineOk (out_ .hHold .low [hi 0]) ∧
    ∃ t, step (out_ .hHold .low [hi 0]) = .next t := by
  refine ⟨by simp [LineOk, out_, State.reset], ⟨_, rfl⟩⟩

/-- Two equal timestamps are in order (CO10). -/
theorem witness_TimestampsNeverDecrease :
    TraceOk { at_ .sRec [lo 0] with clock := 5, trace := [⟨.sWhT, .now, 0#32, .time 5⟩, ⟨.hW3T, .now, 0#32, .time 5⟩] } ∧
      ∃ t, step { at_ .sRec [lo 0] with
        clock := 5, trace := [⟨.sWhT, .now, 0#32, .time 5⟩, ⟨.hW3T, .now, 0#32, .time 5⟩] } = .next t := by
  refine ⟨by simp [TraceOk, nowResponses], ⟨_, rfl⟩⟩

/-- The premises hold after reset and at the last bit; with the parameter set, a long elapsed time stops. -/
theorem witness_OnlyTheParameterCanStopTheMachine :
    CountOk { at_ .sCls [lo 1000000] with params := { Config.defaults with elapsedViolation := .fault } } ∧
      ClockOk { at_ .sCls [lo 1000000] with params := { Config.defaults with elapsedViolation := .fault } } ∧
      CoreOnly { at_ .sCls [lo 1000000] with params := { Config.defaults with elapsedViolation := .fault } } ∧
      Config.defaults.elapsedViolation = .classify := by
  refine ⟨by simp [CountOk, at_, State.reset, MicroState.code], ⟨Nat.le_refl _, Nat.le_refl _⟩, ?_, rfl⟩
  simp [CoreOnly, at_, State.reset]

end Sys2Proof.Tests
end

/-! # Proofs: the scope of the model (turns, rest, parameters and trace) -/

namespace Sys2Proof.Machine

/-! ## A step runs the decoded instruction -/

/-- A turn that holds a word runs the instruction the word decodes to, and nothing around it. -/
theorem step_of_fetch_word {s t : State} {w : CodeWord} {i : Instr} (hf : fetch s = .word w t) (hd : decode w = .ok i) :
    step s = exec i t := by
  simp only [step, hf, hd]

theorem fetch_core {s : State} (h : s.turn = .core) : fetch s = .word (.useq s.upc.code) s.popTurn := by
  simp only [fetch, h]

theorem fetch_hostWrite_zero {s : State} {d : Word} (h : s.turn = .hostWrite 0 d) :
    fetch s = .word (.host d) s.popTurn := by
  simp only [fetch, h, hostWrite]

theorem fetch_busWord {s : State} {w : BitVec 36} (h : s.turn = .busWord w) : fetch s = .word (.cap w) s.popTurn := by
  simp only [fetch, h]

/-- Taking the turn changes no datapath register. -/
theorem registersSame_popTurn (s : State) : RegistersSame s s.popTurn := ⟨rfl, rfl, rfl, rfl, rfl, rfl, rfl⟩

/-- Taking the turn is no move of the environment. -/
theorem issuedNothing_popTurn (s : State) : IssuedNothing s s.popTurn :=
  ⟨rfl, rfl, rfl, rfl, rfl, rfl, rfl, rfl⟩

/-- Settles O5, from one equation of `fetch` per kind of word. -/
theorem stepRunsDecodedInstruction : Obligations.StepRunsDecodedInstruction := by
  unfold Obligations.StepRunsDecodedInstruction
  refine ⟨fun _ _ _ _ hf hd => step_of_fetch_word hf hd, fun _ h => ⟨fetch_core h, step_core h⟩,
    fun _ _ h => fetch_hostWrite_zero h, fun _ _ h => fetch_busWord h, fun s => ⟨?_, issuedNothing_popTurn s⟩⟩
  exact ⟨rfl, registersSame_popTurn s, rfl, rfl, rfl⟩

/-! ## Leaving a micro-state at rest -/

/-- At rest the core's micro-operation is the identity (46 R202, R203; 60 R227). -/
theorem exec_of_not_busy {s : State} (h : s.busy = false) : exec s.upc.instr s = .next s := by
  have hrest := s.busy_eq_false_iff.mp h
  simp only [List.mem_cons, List.not_mem_nil, or_false] at hrest
  rcases hrest with hu | hu | hu | hu <;> rw [hu] <;> rfl

/-- At rest a turn of the core does nothing but pass. -/
theorem step_core_of_not_busy {s : State} (hturn : s.turn = .core) (h : s.busy = false) : step s = .next s.popTurn := by
  rw [step_core hturn]
  exact exec_of_not_busy (s := s.popTurn) h

/-- No capability operation changes a datapath register (40 R110), and neither does the turn it takes. -/
theorem registersSame_popTurn_issue (s : State) (op : CapOp) (arg : Word) :
    RegistersSame s (s.popTurn.issue op arg) := ⟨rfl, rfl, rfl, rfl, rfl, rfl, rfl⟩

/-- A host read changes no datapath register (10 R45), and neither does the turn it takes. -/
theorem registersSame_popTurn_answerHost (s : State) (reg : Nat) :
    RegistersSame s (s.popTurn.answerHost reg) := ⟨rfl, rfl, rfl, rfl, rfl, rfl, rfl⟩

/-- Settles O38, turn by turn: the core's own turn passes, and of the other turns only reset and an accepted START
write a core register. -/
theorem onlyStartOrResetLeavesRest : Obligations.OnlyStartOrResetLeavesRest := by
  unfold Obligations.OnlyStartOrResetLeavesRest
  intro s t h hrest
  rcases step_cases h with ⟨hturn, -⟩ | ⟨c, w, hturn, -⟩ | ⟨r, d, hturn, rfl⟩ | ⟨d, hturn, hd, -, rfl⟩ |
    ⟨r, hturn, rfl⟩ | ⟨w, op, arg, hturn, rfl⟩
  · rw [step_core_of_not_busy hturn hrest] at h
    injection h with h
    subst h
    exact .inr (.inr ⟨rfl, registersSame_popTurn s, fun _ => issuedNothing_popTurn s⟩)
  · exact .inl ⟨c, w, hturn⟩
  · exact .inr (.inr ⟨rfl, registersSame_popTurn s, fun _ => issuedNothing_popTurn s⟩)
  · exact .inr (.inl ⟨d, hturn, hd, rfl⟩)
  · exact .inr (.inr ⟨rfl, registersSame_popTurn_answerHost s r, by simp [hturn]⟩)
  · exact .inr (.inr ⟨rfl, registersSame_popTurn_issue s op arg, by simp [hturn]⟩)

/-! ## The parameters and the trace -/

/-- The parameters are as before, and the trace at most has new lines in front (00 R5, R11). -/
def KeepsHistory (s t : State) : Prop := t.params = s.params ∧ s.trace <:+ t.trace

/-- What leaves both fields alone keeps the history. -/
theorem KeepsHistory.of_eq {s t : State} (hp : t.params = s.params) (ht : t.trace = s.trace) : KeepsHistory s t :=
  ⟨hp, ht ▸ List.suffix_rfl⟩

/-- What adds one line to the trace keeps the history. -/
theorem KeepsHistory.of_cons {s t : State} {e : TraceEntry} (hp : t.params = s.params) (ht : t.trace = e :: s.trace) :
    KeepsHistory s t :=
  ⟨hp, ht ▸ List.suffix_cons e s.trace⟩

/-- A deadline check adds the line of its `NOW`, with either outcome. -/
theorem keepsHistory_checkDeadline (query : MicroState) (s : State) : KeepsHistory s (checkDeadline query s) := by
  rcases checkDeadline_cases query s with ⟨-, h⟩ | ⟨-, h⟩ <;> rw [h] <;> exact .of_cons rfl rfl

/-- A micro-operation adds a line for the capability operation it issues, if it issues one (30 R96). -/
theorem keepsHistory_exec_micro {s t : State} (h : exec s.upc.instr s = .next t) : KeepsHistory s t := by
  rcases exec_micro_cases h with ⟨-, rfl⟩ | ⟨op, arg, onward, -, rfl⟩ | ⟨w, -, hw⟩ | ⟨-, rfl⟩ | ⟨-, -, rfl⟩ |
    ⟨-, rfl⟩ | ⟨-, -, rfl⟩ | ⟨-, -, rfl⟩ | ⟨-, rfl⟩
  · exact .of_eq rfl rfl
  · exact .of_cons rfl rfl
  · rcases hw with ⟨-, rfl⟩ | ⟨-, rfl⟩ | ⟨-, rfl⟩
    · exact .of_cons rfl rfl
    · exact .of_cons rfl rfl
    · exact keepsHistory_checkDeadline w.query s
  · exact .of_cons rfl rfl
  · exact .of_cons rfl rfl
  · exact .of_eq rfl rfl
  · exact .of_eq rfl rfl
  · exact .of_eq rfl rfl
  · exact .of_eq rfl rfl

/-- A withdrawn operation adds no line to the trace, even where the environment completes it (log 8). -/
theorem keepsHistory_withdraw (s : State) (completes : Bool) : KeepsHistory s (s.withdraw completes) := by
  rcases s.withdraw_cases completes with h | ⟨op, arg, -, -, h⟩ <;> rw [h] <;> exact .of_eq rfl rfl

/-- Whosever turn it is, a step keeps the history. -/
theorem keepsHistory_step {s t : State} (h : step s = .next t) : KeepsHistory s t := by
  rcases step_cases h with ⟨-, hexec⟩ | ⟨c, w, -, rfl⟩ | ⟨r, d, -, rfl⟩ | ⟨d, -, -, -, rfl⟩ | ⟨r, -, rfl⟩ |
    ⟨w, op, arg, -, rfl⟩
  · exact keepsHistory_exec_micro (s := s.popTurn) hexec
  · exact keepsHistory_withdraw s.popTurn c
  · exact .of_eq rfl rfl
  · exact .of_eq rfl rfl
  · exact .of_eq rfl rfl
  · exact .of_cons rfl rfl

/-- Settles O59, from what each turn leaves of the two fields. -/
theorem parametersAreConstant : Obligations.ParametersAreConstant := by
  unfold Obligations.ParametersAreConstant
  exact fun _ _ => keepsHistory_step

end Sys2Proof.Machine

/-! # Proofs: the core's state (flags, host port, reset, who writes each register, the invariants on the readout) -/

namespace Sys2Proof.Machine

/-! ## The flags by micro-state -/

theorem State.busy_iff (s : State) : s.busy = true ↔ 1 ≤ s.upc.code.toNat ∧ s.upc.code.toNat ≤ 27 := by
  simp only [State.busy, Bool.and_eq_true, decide_eq_true_eq]

theorem State.doneFlag_iff (s : State) : s.doneFlag = true ↔ 28 ≤ s.upc.code.toNat := by
  simp only [State.doneFlag]
  cases s.upc <;> decide

theorem State.errCode_eq (s : State) :
    s.errCode = (if s.upc.code.toNat = 29 then 1#2 else if s.upc.code.toNat = 30 then 2#2 else 0#2) := by
  simp only [State.errCode]
  cases s.upc <;> rfl

/-- Outside rest only `BUSY` stands in `STATUS`; at rest the four micro-states have four values (10 R32, R42). -/
theorem State.status_eq (s : State) :
    s.status = (if s.upc.code.toNat = 0 then 0x0#32 else if s.upc.code.toNat ≤ 27 then 0x1#32
      else if s.upc.code.toNat = 28 then 0x2#32 else if s.upc.code.toNat = 29 then 0x6#32 else 0xA#32) := by
  simp only [State.status, State.errCode, State.doneFlag, State.busy]
  cases s.upc <;> rfl

/-- Of the three terminal micro-states only `DONE` has no error (10 R32, R42). -/
theorem State.done_without_error_iff (s : State) : s.doneFlag = true ∧ s.errCode = 0#2 ↔ s.upc = .done := by
  simp only [State.doneFlag, State.errCode]
  cases s.upc <;> decide

/-- Settles O42, flag by flag over the 31 micro-states. -/
theorem statusByMicroState : Obligations.StatusByMicroState := by
  unfold Obligations.StatusByMicroState
  exact fun s => ⟨s.busy_iff, s.doneFlag_iff, s.errCode_eq, s.status_eq, s.done_without_error_iff⟩

/-- Settles O43: each micro-state's code lies in the range of its name. -/
theorem phaseByMicroState : Obligations.PhaseByMicroState := by
  unfold Obligations.PhaseByMicroState
  intro s
  simp only [State.phase]
  cases s.upc <;> rfl

/-! ## The host port -/

/-- A 12-bit field is shown right-aligned, with its value unchanged (10 R43, R44). -/
theorem Tenths.toNat_setWidth_word (v : Tenths) : (v.setWidth 32).toNat = v.toNat :=
  BitVec.toNat_setWidth_of_le (by decide)

theorem State.hostValue_of_four_le (s : State) {n : Nat} (h : 4 ≤ n) : s.hostValue n = 0#32 := by
  match n, h with
  | _ + 4, _ => rfl

/-- Where the host port shows zeros: in `IDLE` with no Reading (10 R55). -/
theorem State.hostValue_of_idle {s : State} (hupc : s.upc = .idle) (hhum : s.hum = 0#12) (htemp : s.temp = 0#12)
    (n : Nat) : s.hostValue n = 0#32 := by
  match n with
  | 0 => rfl
  | 1 => rw [State.hostValue, State.status_eq, hupc]; rfl
  | 2 => rw [State.hostValue, hhum]; rfl
  | 3 => rw [State.hostValue, htemp]; rfl
  | _ + 4 => rfl

/-- Answering a host read is no move of the environment (10 R45). -/
theorem issuedNothing_popTurn_answerHost (s : State) (reg : Nat) : IssuedNothing s (s.popTurn.answerHost reg) :=
  ⟨rfl, rfl, rfl, rfl, rfl, rfl, rfl, rfl⟩

/-- A host write that is no command only takes its turn (10 R41, R45). -/
theorem step_hostWrite_ignored {s : State} {n : Nat} {d : Word} (h : s.turn = .hostWrite n d)
    (hno : n ≠ 0 ∨ d[0] = false) : step s = .next s.popTurn := by
  rw [step_hostWrite h, if_neg]
  rintro ⟨rfl, hd, -⟩
  rcases hno with hn | hd'
  · exact hn rfl
  · rw [hd] at hd'
    cases hd'

/-- Settles O44: what the registers show, then the two turns of the host that start nothing. -/
theorem hostPortReadsAndWrites : Obligations.HostPortReadsAndWrites := by
  unfold Obligations.HostPortReadsAndWrites
  refine ⟨fun s => ⟨rfl, rfl, Tenths.toNat_setWidth_word s.hum, Tenths.toNat_setWidth_word s.temp,
      fun _ => s.hostValue_of_four_le⟩, fun s n h => ?_, fun s n d h hno => ?_⟩
  · exact ⟨_, step_hostRead h, rfl, rfl, registersSame_popTurn_answerHost s n, issuedNothing_popTurn_answerHost s n,
      rfl, rfl⟩
  · exact ⟨_, step_hostWrite_ignored h hno, rfl, registersSame_popTurn s, issuedNothing_popTurn s, rfl, rfl, rfl⟩

/-! ## Clearing -/

theorem registersCleared_reset : RegistersCleared State.reset := ⟨rfl, rfl, rfl, rfl, rfl, rfl, rfl⟩

theorem registersCleared_resetCore (s : State) : RegistersCleared s.resetCore := ⟨rfl, rfl, rfl, rfl, rfl, rfl, rfl⟩

theorem registersCleared_beginReadout (s : State) : RegistersCleared s.beginReadout :=
  ⟨rfl, rfl, rfl, rfl, rfl, rfl, rfl⟩

theorem registersCleared_raiseError (s : State) (e : ErrorKind) : RegistersCleared (s.raiseError e) :=
  ⟨rfl, rfl, rfl, rfl, rfl, rfl, rfl⟩

/-- START begins a readout at rest and is ignored otherwise, whatever its ignored bits (46 R204, R205; 30 R98). -/
theorem exec_start (g : BitVec 31) (s : State) : exec (.start g) s = .next (if s.busy then s else s.beginReadout) := rfl

theorem exec_start_of_not_busy (g : BitVec 31) {s : State} (h : s.busy = false) :
    exec (.start g) s = .next s.beginReadout := by
  rw [exec_start, h]
  rfl

/-- What is seen of a core in `IDLE` with its registers cleared: no flag is set, and the host reads zeros (10 R55). -/
theorem outputs_of_idle_cleared {t : State} (hupc : t.upc = .idle) (hclear : RegistersCleared t) :
    t.busy = false ∧ t.doneFlag = false ∧ t.errCode = 0#2 ∧ ∀ n, t.hostValue n = 0#32 := by
  obtain ⟨-, -, -, -, -, hhum, htemp⟩ := hclear
  refine ⟨?_, ?_, ?_, State.hostValue_of_idle hupc hhum htemp⟩
  · rw [State.busy_eq_false_iff, hupc]
    decide
  · rw [State.doneFlag, hupc]
    rfl
  · rw [State.errCode_eq, hupc]
    rfl

/-- Settles O7: `State.reset`, a reset turn from every state, and START. -/
theorem resetValues : Obligations.ResetValues := by
  unfold Obligations.ResetValues
  refine ⟨?_, fun s c w h => ?_, fun s g h => ⟨_, exec_start_of_not_busy g h, registersCleared_beginReadout s⟩⟩
  · exact ⟨rfl, registersCleared_reset, outputs_of_idle_cleared rfl registersCleared_reset⟩
  · have hclear := registersCleared_resetCore (s.popTurn.withdraw c)
    obtain ⟨hbusy, hdone, herr, hhost⟩ := outputs_of_idle_cleared rfl hclear
    refine ⟨_, step_reset h, rfl, hclear, hbusy, hdone, herr, hhost, ?_⟩
    rintro rfl
    exact ⟨rfl, rfl, rfl, rfl, rfl, rfl, rfl⟩

/-- START keeps nothing of the core: the state after it is fixed by what lies outside `UPC` and the datapath
(70 R255). -/
theorem beginReadout_congr {s u : State} (htrace : u.trace = s.trace) (henv : EnvironmentSame s u)
    (hsur : SurroundingsSame s u) : s.beginReadout = u.beginReadout := by
  obtain ⟨hmode, hout, hline, hclock, hscript, hlasting, htick⟩ := henv
  obtain ⟨hparams, hagenda, hdata⟩ := hsur
  simp only [State.beginReadout, State.clearDatapath, State.setUpc, htrace, hmode, hout, hline, hclock, hscript,
    hlasting, htick, hparams, hagenda, hdata]

/-- Settles O41, since both states are at rest and take the START. -/
theorem startForgetsHistory : Obligations.StartForgetsHistory := by
  unfold Obligations.StartForgetsHistory
  intro s u g h hs hu htrace henv hsur
  rw [exec_start_of_not_busy g hs, exec_start_of_not_busy h hu, beginReadout_congr htrace henv hsur]

/-! ## What a step does to the core's registers -/

/-- A move within the handshake and the sampler, which never goes from the sampler back to the handshake. -/
abbrev Onward (m n : MicroState) : Prop :=
  1 ≤ m.code.toNat ∧ m.code.toNat ≤ 24 ∧ 1 ≤ n.code.toNat ∧ n.code.toNat ≤ 24 ∧
    (17 ≤ m.code.toNat → 17 ≤ n.code.toNat)

/-- The registers that hold the readout's data (`IDX`, `BITS`, `FRAME`, `HUM`, `TEMP`) are as before. -/
def DataSame (s t : State) : Prop :=
  t.idx = s.idx ∧ t.bits = s.bits ∧ t.frame = s.frame ∧ t.hum = s.hum ∧ t.temp = s.temp

/-- What one step of the machine does to `UPC` and the datapath, in the terms of 10 R29. -/
inductive CoreStep (s t : State) : Prop
  /-- The core is not touched: at rest, by a host read, by an ignored host write, by a bus word. -/
  | stay (hupc : t.upc = s.upc) (hregs : RegistersSame s t)
  /-- Reset, START or error entry. -/
  | clear (hevent : ClearingEvent s t) (hupc : t.upc.code.toNat ≤ 1 ∨ 29 ≤ t.upc.code.toNat)
      (hregs : RegistersCleared t)
  /-- A control step, a level-wait's micro-operation without a Timeout, or `S_REC`. -/
  | onward (hturn : s.turn = .core) (hupc : Onward s.upc t.upc)
      (hentry : t.tEntry ≠ s.tEntry → s.upc ∈ [.hW1T, .hW2T, .hW3T, .sWhT, .sWlT])
      (hrec : t.tRec ≠ s.tRec → s.upc = .sRec) (hdata : DataSame s t)
  /-- `S_CLS`. -/
  | sample (hturn : s.turn = .core) (hfrom : s.upc = .sCls) (hto : t.upc = afterClassify s.idx)
      (hidx : s.idx.toNat < 40) (b : Bool) (hregs : RegistersSame (s.storeBit b) t)
  /-- `V_PACK`. -/
  | pack (hturn : s.turn = .core) (hfrom : s.upc = .vPack) (hto : t.upc = .vChk)
      (hregs : RegistersSame (s.setFrame (packFrame s.bits)) t)
  /-- `V_CHK`, passed. -/
  | pass (hturn : s.turn = .core) (hfrom : s.upc = .vChk) (hto : t.upc = .cConv) (hvalid : s.frame.valid = true)
      (hregs : RegistersSame s t)
  /-- `C_CONV`. -/
  | convert (hturn : s.turn = .core) (hfrom : s.upc = .cConv) (hto : t.upc = .done)
      (hregs : RegistersSame (s.setReading (tenths s.frame.b0 s.frame.b1) (tenths s.frame.b2 s.frame.b3)) t)

/-- Error entry from a busy micro-state is a clearing event (60 R226). -/
theorem CoreStep.error {s u : State} {e : ErrorKind} (hturn : s.turn = .core)
    (hbusy : 1 ≤ s.upc.code.toNat ∧ s.upc.code.toNat ≤ 27) : CoreStep s (u.raiseError e) := by
  refine .clear (.inr (.inr ⟨hturn, s.busy_iff.mpr hbusy, ?_⟩)) (.inr ?_) (registersCleared_raiseError u e)
  · cases e
    · exact .inl rfl
    · exact .inr rfl
  · cases e <;> rw [State.raiseError_upc] <;> decide

/-- A move onward that takes no timestamp changes only `UPC`. -/
theorem CoreStep.onward_of_registersSame {s t : State} (hturn : s.turn = .core) (hupc : Onward s.upc t.upc)
    (hregs : RegistersSame s t) : CoreStep s t := by
  obtain ⟨hentry, hrec, hdata⟩ := hregs
  exact .onward hturn hupc (fun h => absurd hentry h) (fun h => absurd hrec h) hdata

/-- The micro-states of the five level-waits: the entries write `T_ENTRY`, and every way on is onward (41 R135). -/
theorem onward_of_mem_waitInstances : ∀ w ∈ waitInstances,
    w.entry ∈ [.hW1T, .hW2T, .hW3T, .sWhT, .sWlT] ∧ Onward w.entry w.query ∧ Onward w.query w.success ∧
      Onward w.query w.check ∧ Onward w.check w.query := by
  decide

/-- Every control step of the handshake is onward (42 R141 to R147). -/
theorem onward_of_controlRow {p : Params} {m onward : MicroState} {op : CapOp} {arg : Word}
    (h : (m, op, arg, onward) ∈
      [(.hOut, .setModeOutput, 0#32, .hHi0), (.hHi0, .driveHigh, 0#32, .hLo), (.hLo, .driveLow, 0#32, .hHold),
        (.hHold, .wait, p.tStartLowUs, .hHi1), (.hHi1, .driveHigh, 0#32, .hRel), (.hRel, .wait, p.tReleaseUs, .hIn),
        (.hIn, .setModeInput, 0#32, .hW1T)]) : Onward m onward := by
  simp only [List.mem_cons, Prod.mk.injEq, List.not_mem_nil, or_false] at h
  rcases h with ⟨rfl, -, -, rfl⟩ | ⟨rfl, -, -, rfl⟩ | ⟨rfl, -, -, rfl⟩ | ⟨rfl, -, -, rfl⟩ | ⟨rfl, -, -, rfl⟩ |
    ⟨rfl, -, -, rfl⟩ | ⟨rfl, -, -, rfl⟩ <;> decide

/-- What a micro-operation of a level-wait does to the core. -/
theorem coreStep_of_wait {s t : State} (hturn : s.turn = .core) {w : WaitInstance} (hw : w ∈ waitInstances)
    (h : (s.upc = w.entry ∧ t = takeEntry w.query s.popTurn) ∨
      (s.upc = w.query ∧ t = queryPin w.target w.success w.check s.popTurn) ∨
      (s.upc = w.check ∧ t = checkDeadline w.query s.popTurn)) : CoreStep s t := by
  obtain ⟨hmem, hentry, hsuccess, hmiss, hpoll⟩ := onward_of_mem_waitInstances w hw
  rcases h with ⟨hu, rfl⟩ | ⟨hu, rfl⟩ | ⟨hu, rfl⟩
  · exact .onward hturn (hu ▸ hentry) (fun _ => hu ▸ hmem) (fun h => absurd rfl h) ⟨rfl, rfl, rfl, rfl, rfl⟩
  · rcases queryPin_cases w.target w.success w.check s.popTurn with ⟨-, hq⟩ | ⟨-, hq⟩ <;> rw [hq]
    · exact .onward_of_registersSame hturn (hu ▸ hsuccess) ⟨rfl, rfl, rfl, rfl, rfl, rfl, rfl⟩
    · exact .onward_of_registersSame hturn (hu ▸ hmiss) ⟨rfl, rfl, rfl, rfl, rfl, rfl, rfl⟩
  · rcases checkDeadline_cases w.query s.popTurn with ⟨-, hc⟩ | ⟨-, hc⟩ <;> rw [hc]
    · obtain ⟨h1, h24, -⟩ := hpoll
      exact .error hturn (hu ▸ ⟨h1, by omega⟩)
    · exact .onward_of_registersSame hturn (hu ▸ hpoll) ⟨rfl, rfl, rfl, rfl, rfl, rfl, rfl⟩

/-- What a turn of the core does to the core. -/
theorem coreStep_exec_micro {s t : State} (hturn : s.turn = .core) (h : exec s.upc.instr s.popTurn = .next t) :
    CoreStep s t := by
  rcases exec_micro_cases (s := s.popTurn) h with ⟨-, rfl⟩ | ⟨op, arg, onward, hrow, rfl⟩ | ⟨w, hw, hwait⟩ |
    ⟨(hu : s.upc = .sRec), rfl⟩ | ⟨hu, hfault, rfl⟩ | ⟨hu, rfl⟩ | ⟨hu, hvalid, rfl⟩ | ⟨(hu : s.upc = .vChk), -, rfl⟩ |
    ⟨hu, rfl⟩
  · exact .stay rfl (registersSame_popTurn s)
  · exact .onward_of_registersSame hturn (onward_of_controlRow hrow) ⟨rfl, rfl, rfl, rfl, rfl, rfl, rfl⟩
  · exact coreStep_of_wait hturn hw hwait
  · exact .onward hturn (hu ▸ (by decide : Onward .sRec .sWlT)) (fun h => absurd rfl h) (fun _ => hu)
      ⟨rfl, rfl, rfl, rfl, rfl⟩
  · obtain ⟨-, hidx, -⟩ := (sampleFault_eq_none_iff _ _ _ _).mp hfault
    exact .sample hturn hu rfl hidx _ ⟨rfl, rfl, rfl, rfl, rfl, rfl, rfl⟩
  · exact .pack hturn hu rfl ⟨rfl, rfl, rfl, rfl, rfl, rfl, rfl⟩
  · exact .pass hturn hu rfl hvalid ⟨rfl, rfl, rfl, rfl, rfl, rfl, rfl⟩
  · exact .error hturn (hu ▸ by decide)
  · exact .convert hturn hu rfl ⟨rfl, rfl, rfl, rfl, rfl, rfl, rfl⟩

/-- Whosever turn it is, a step does one of these things to the core. -/
theorem coreStep_of_step {s t : State} (h : step s = .next t) : CoreStep s t := by
  rcases step_cases h with ⟨hturn, hexec⟩ | ⟨c, w, hturn, rfl⟩ | ⟨r, d, -, rfl⟩ | ⟨d, hturn, hd, hbusy, rfl⟩ |
    ⟨r, -, rfl⟩ | ⟨w, op, arg, -, rfl⟩
  · exact coreStep_exec_micro hturn hexec
  · exact .clear (.inl ⟨c, w, hturn⟩) (.inl (by rw [State.resetCore_upc]; decide)) (registersCleared_resetCore _)
  · exact .stay rfl (registersSame_popTurn s)
  · exact .clear (.inr (.inl ⟨d, hturn, hd, hbusy, rfl⟩)) (.inl (by rw [State.beginReadout_upc]; decide))
      (registersCleared_beginReadout _)
  · exact .stay rfl (registersSame_popTurn_answerHost s r)
  · exact .stay rfl (registersSame_popTurn_issue s op arg)

/-! ## Who writes each register -/

theorem afterClassify_cases (idx : BitVec 6) :
    (idx.toNat = 39 ∧ afterClassify idx = .vPack) ∨ (idx.toNat ≠ 39 ∧ afterClassify idx = .sWhT) := by
  by_cases h : idx.toNat = 39 <;> simp [afterClassify, h]

/-- A core that enters an error micro-state from a busy one is cleared, since only error entry goes there
(60 R226). -/
theorem CoreStep.cleared_of_error {s t : State} (h : CoreStep s t) (hbusy : s.busy = true)
    (hupc : t.upc = .errTimeout ∨ t.upc = .errChecksum) : RegistersCleared t := by
  have hcode : 29 ≤ t.upc.code.toNat := by rcases hupc with hu | hu <;> rw [hu] <;> decide
  cases h with
  | stay hu _ =>
    have hle := (s.busy_iff.mp hbusy).2
    rw [hu] at hcode
    omega
  | clear _ _ hregs => exact hregs
  | onward _ hon _ _ _ =>
    obtain ⟨-, -, -, hle, -⟩ := hon
    omega
  | sample _ _ hto _ _ _ =>
    rcases afterClassify_cases s.idx with ⟨-, ha⟩ | ⟨-, ha⟩ <;> rw [hto, ha] at hcode <;>
      exact absurd hcode (by decide)
  | pack _ _ hto _ | pass _ _ hto _ _ | convert _ _ hto _ =>
    rw [hto] at hcode
    exact absurd hcode (by decide)

/-- Reset, START and error entry leave every datapath register 0 (10 R29, R55). -/
theorem registersCleared_of_clearingEvent {s t : State} (h : step s = .next t) (hevent : ClearingEvent s t) :
    RegistersCleared t := by
  rcases hevent with ⟨c, w, hturn⟩ | ⟨d, hturn, hd, hbusy, -⟩ | ⟨-, hbusy, hupc⟩
  · rw [step_reset hturn] at h
    injection h with h
    exact h ▸ registersCleared_resetCore _
  · rw [step_hostWrite hturn, if_pos ⟨rfl, hd, hbusy⟩] at h
    injection h with h
    exact h ▸ registersCleared_beginReadout _
  · exact (coreStep_of_step h).cleared_of_error hbusy hupc

/-- `UPC` is moved by the core's own turn or by a clearing event. -/
theorem CoreStep.upc_writer {s t : State} (h : CoreStep s t) (hne : t.upc ≠ s.upc) :
    s.turn = .core ∨ ClearingEvent s t := by
  cases h with
  | stay hupc _ => exact absurd hupc hne
  | clear hevent _ _ => exact .inr hevent
  | onward hturn _ _ _ _ | sample hturn _ _ _ _ _ | pack hturn _ _ _ | pass hturn _ _ _ _ | convert hturn _ _ _ =>
    exact .inl hturn

/-- A cell of `BITS` that `S_CLS` changes is the one `IDX` names (43 R164). -/
theorem storeBit_bits_ne {s : State} {b : Bool} {i : Fin 40} (h : (s.storeBit b).bits[i.val] ≠ s.bits[i.val]) :
    i.val = s.idx.toNat := by
  by_contra hne
  rw [State.storeBit_bits, Vector.getElem_setIfInBounds, if_neg (Ne.symm hne)] at h
  exact h rfl

/-- Outside the clearing events each datapath register has the writers 10 R29 names and no other. -/
theorem CoreStep.register_writers {s t : State} (h : CoreStep s t) (hno : ¬ClearingEvent s t) :
    (t.tEntry ≠ s.tEntry → s.turn = .core ∧ s.upc ∈ [.hW1T, .hW2T, .hW3T, .sWhT, .sWlT]) ∧
      (t.tRec ≠ s.tRec → s.turn = .core ∧ s.upc = .sRec) ∧
      (t.idx ≠ s.idx → s.turn = .core ∧ s.upc = .sCls) ∧
      (∀ i : Fin 40, t.bits[i.val] ≠ s.bits[i.val] → s.turn = .core ∧ s.upc = .sCls ∧ i.val = s.idx.toNat) ∧
      (t.frame ≠ s.frame → s.turn = .core ∧ s.upc = .vPack) ∧
      (t.hum ≠ s.hum ∨ t.temp ≠ s.temp → s.turn = .core ∧ s.upc = .cConv) := by
  cases h with
  | clear hevent _ _ => exact absurd hevent hno
  | stay _ hregs | pass _ _ _ _ hregs =>
    obtain ⟨hentry, hrec, hidx, hbits, hframe, hhum, htemp⟩ := hregs
    simp [hentry, hrec, hidx, hbits, hframe, hhum, htemp]
  | onward hturn _ hentry hrec hdata =>
    obtain ⟨hidx, hbits, hframe, hhum, htemp⟩ := hdata
    refine ⟨fun h => ⟨hturn, hentry h⟩, fun h => ⟨hturn, hrec h⟩, ?_⟩
    simp [hidx, hbits, hframe, hhum, htemp]
  | sample hturn hfrom _ _ b hregs =>
    obtain ⟨hentry, hrec, -, hbits, hframe, hhum, htemp⟩ := hregs
    refine ⟨fun h => absurd hentry h, fun h => absurd hrec h, fun _ => ⟨hturn, hfrom⟩, fun i h => ?_,
      fun h => absurd hframe h, fun h => ?_⟩
    · exact ⟨hturn, hfrom, storeBit_bits_ne (hbits ▸ h)⟩
    · exact absurd h (by simp [hhum, htemp])
  | pack hturn hfrom _ hregs =>
    obtain ⟨hentry, hrec, hidx, hbits, -, hhum, htemp⟩ := hregs
    simp [hentry, hrec, hidx, hbits, hhum, htemp, hturn, hfrom]
  | convert hturn hfrom _ hregs =>
    obtain ⟨hentry, hrec, hidx, hbits, hframe, -, -⟩ := hregs
    simp [hentry, hrec, hidx, hbits, hframe, hturn, hfrom]

/-- Settles O46, from what a step does to the core. -/
theorem registerWriters : Obligations.RegisterWriters := by
  unfold Obligations.RegisterWriters
  intro s t h
  have hcore := coreStep_of_step h
  exact ⟨hcore.upc_writer, registersCleared_of_clearingEvent h, hcore.register_writers⟩

/-! ## `IDX` by micro-state -/

/-- A count of 0 suits every micro-state but those after the 40th bit. -/
theorem countOk_of_idx_zero {t : State} (hidx : t.idx = 0#6)
    (hupc : t.upc.code.toNat ≤ 24 ∨ 29 ≤ t.upc.code.toNat) : CountOk t := by
  refine ⟨fun _ => hidx, fun _ _ => by simp [hidx], fun h25 h28 => ?_, fun _ => hidx⟩
  omega

/-- A count below 40 suits the sampler. -/
theorem countOk_of_sampling {t : State} (h17 : 17 ≤ t.upc.code.toNat) (h24 : t.upc.code.toNat ≤ 24)
    (hidx : t.idx.toNat ≤ 39) : CountOk t := by
  refine ⟨fun h => ?_, fun _ _ => hidx, fun h _ => ?_, fun h => ?_⟩ <;> omega

/-- A count of 40 suits the micro-states after the 40th bit. -/
theorem countOk_of_captured {t : State} (h25 : 25 ≤ t.upc.code.toNat) (h28 : t.upc.code.toNat ≤ 28)
    (hidx : t.idx = 40#6) : CountOk t := by
  refine ⟨fun h => ?_, fun _ h => ?_, fun _ _ => hidx, fun h => ?_⟩ <;> omega

/-- The count stays in range over everything a step does to the core. -/
theorem CoreStep.countOk {s t : State} (h : CoreStep s t) (hs : CountOk s) : CountOk t := by
  have ⟨hbefore, hsampling, hcaptured, _⟩ := hs
  cases h with
  | stay hupc hregs =>
    obtain ⟨-, -, hidx, -⟩ := hregs
    simpa only [CountOk, hupc, hidx] using hs
  | clear _ hupc hregs =>
    obtain ⟨-, -, hidx, -⟩ := hregs
    exact countOk_of_idx_zero hidx (by omega)
  | onward _ hupc _ _ hdata =>
    obtain ⟨-, h24, -, h24', hkeep⟩ := hupc
    obtain ⟨hidx, -⟩ := hdata
    by_cases h17 : 17 ≤ s.upc.code.toNat
    · exact countOk_of_sampling (hkeep h17) h24' (hidx ▸ hsampling h17 h24)
    · exact countOk_of_idx_zero (hidx ▸ hbefore (by omega)) (.inl h24')
  | sample _ _ hto hlt b hregs =>
    obtain ⟨-, -, hidx, -⟩ := hregs
    have hnext : t.idx.toNat = s.idx.toNat + 1 := hidx ▸ storeBit_idx_toNat b hlt
    rcases afterClassify_cases s.idx with ⟨hlast, ha⟩ | ⟨hmore, ha⟩ <;> rw [ha] at hto
    · refine countOk_of_captured (by rw [hto]; decide) (by rw [hto]; decide) (BitVec.eq_of_toNat_eq ?_)
      rw [hnext, hlast]
      rfl
    · exact countOk_of_sampling (by rw [hto]; decide) (by rw [hto]; decide) (by omega)
  | pack _ hfrom hto hregs | pass _ hfrom hto _ hregs | convert _ hfrom hto hregs =>
    obtain ⟨-, -, hidx, -⟩ := hregs
    have h40 : s.idx = 40#6 := hcaptured (by rw [hfrom]; decide) (by rw [hfrom]; decide)
    exact countOk_of_captured (by rw [hto]; decide) (by rw [hto]; decide) (hidx.trans h40)

/-- Settles O51, from what a step does to the core. -/
theorem countInvariantKept : Obligations.CountInvariantKept := by
  unfold Obligations.CountInvariantKept
  exact fun s t hs h => (coreStep_of_step h).countOk hs

/-! ## The captured bits and the frame -/

/-- The cells of `BITS` at and above `IDX` have not been written (10 R24). -/
def Unwritten (s : State) : Prop := ∀ i : Fin 40, s.idx.toNat ≤ i.val → s.bits[i.val] = false

/-- Storing a bit at `IDX` and counting up leaves the cells from the new `IDX` on unwritten. -/
theorem unwritten_storeBit {s : State} (b : Bool) (hlt : s.idx.toNat < 40) (hs : Unwritten s) :
    Unwritten (s.storeBit b) := by
  intro i hi
  rw [storeBit_idx_toNat b hlt] at hi
  have hne : s.idx.toNat ≠ i.val := by omega
  rw [State.storeBit_bits, Vector.getElem_setIfInBounds, if_neg hne]
  exact hs i (by omega)

theorem unwritten_congr {s t : State} (hidx : t.idx = s.idx) (hbits : t.bits = s.bits) (hs : Unwritten s) :
    Unwritten t := by
  simpa only [Unwritten, hidx, hbits] using hs

/-- Before `V_PACK` has run, and after a clearing event, the frame is 0. -/
theorem captureOk_of_frame_zero {t : State} (hbits : Unwritten t) (hframe : t.frame = Frame.zero)
    (hupc : t.upc.code.toNat ≤ 25 ∨ 29 ≤ t.upc.code.toNat) : CaptureOk t := by
  refine ⟨hbits, fun _ => hframe, fun h26 h28 => ?_⟩
  omega

/-- From `V_PACK` to `DONE` the frame is the packed bits. -/
theorem captureOk_of_packed {t : State} (hbits : Unwritten t) (hframe : t.frame = packFrame t.bits)
    (h26 : 26 ≤ t.upc.code.toNat) (h28 : t.upc.code.toNat ≤ 28) : CaptureOk t := by
  refine ⟨hbits, fun h => ?_, fun _ _ => hframe⟩
  omega

/-- The captured bits and the frame stay in step with the micro-state over everything a step does to the core. -/
theorem CoreStep.captureOk {s t : State} (h : CoreStep s t) (hs : CaptureOk s) : CaptureOk t := by
  have ⟨hun, hzero, hpacked⟩ := hs
  cases h with
  | stay hupc hregs =>
    obtain ⟨-, -, hidx, hbits, hframe, -⟩ := hregs
    simpa only [CaptureOk, hupc, hidx, hbits, hframe] using hs
  | clear _ hupc hregs =>
    obtain ⟨-, -, -, hbits, hframe, -⟩ := hregs
    exact captureOk_of_frame_zero (fun i _ => by simp [hbits]) hframe (by omega)
  | onward _ hupc _ _ hdata =>
    obtain ⟨-, h24, -, h24', -⟩ := hupc
    obtain ⟨hidx, hbits, hframe, -⟩ := hdata
    exact captureOk_of_frame_zero (unwritten_congr hidx hbits hun) (hframe.trans (hzero (by omega))) (by omega)
  | sample _ hfrom hto hlt b hregs =>
    obtain ⟨-, -, hidx, hbits, hframe, -⟩ := hregs
    refine captureOk_of_frame_zero (unwritten_congr hidx hbits (unwritten_storeBit b hlt hun))
      (hframe.trans (hzero (by rw [hfrom]; decide))) ?_
    rcases afterClassify_cases s.idx with ⟨-, ha⟩ | ⟨-, ha⟩ <;> rw [hto, ha] <;> decide
  | pack _ _ hto hregs =>
    obtain ⟨-, -, hidx, hbits, hframe, -⟩ := hregs
    refine captureOk_of_packed (unwritten_congr hidx hbits hun) ?_ (by rw [hto]; decide) (by rw [hto]; decide)
    rw [hframe, hbits]
    rfl
  | pass _ hfrom hto _ hregs | convert _ hfrom hto hregs =>
    obtain ⟨-, -, hidx, hbits, hframe, -⟩ := hregs
    have hpack : s.frame = packFrame s.bits := hpacked (by rw [hfrom]; decide) (by rw [hfrom]; decide)
    refine captureOk_of_packed (unwritten_congr hidx hbits hun) ?_ (by rw [hto]; decide) (by rw [hto]; decide)
    rw [hframe, hbits]
    exact hpack

/-- Settles O52, from what a step does to the core; that `IDX` names a cell is `S_CLS`'s own premise, so the premise on
the count is not used. -/
theorem captureInvariantKept : Obligations.CaptureInvariantKept := by
  unfold Obligations.CaptureInvariantKept
  exact fun s t _ hs h => (coreStep_of_step h).captureOk hs

/-! ## The Reading -/

theorem MicroState.ne_cConv_and_ne_done {m : MicroState} (h : m.code.toNat ≤ 26 ∨ 29 ≤ m.code.toNat) :
    m ≠ .cConv ∧ m ≠ .done := by
  constructor <;> rintro rfl <;> exact absurd h (by decide)

/-- Outside `C_CONV` and `DONE` the invariant says only that there is no Reading. -/
theorem readingOk_of_zero {t : State} (hupc : t.upc.code.toNat ≤ 26 ∨ 29 ≤ t.upc.code.toNat) (hhum : t.hum = 0#12)
    (htemp : t.temp = 0#12) : ReadingOk t := by
  obtain ⟨hconv, hdone⟩ := MicroState.ne_cConv_and_ne_done hupc
  exact ⟨fun _ => ⟨hhum, htemp⟩, fun h => absurd h (by simp [hconv, hdone]), fun h => absurd h hdone⟩

/-- A Reading stands in `DONE` only, and is that of a valid frame, over everything a step does to the core. -/
theorem CoreStep.readingOk {s t : State} (h : CoreStep s t) (hs : ReadingOk s) : ReadingOk t := by
  have ⟨hzero, hvalid, _⟩ := hs
  cases h with
  | stay hupc hregs =>
    obtain ⟨-, -, -, -, hframe, hhum, htemp⟩ := hregs
    simpa only [ReadingOk, hupc, hframe, hhum, htemp] using hs
  | clear _ hupc hregs =>
    obtain ⟨-, -, -, -, -, hhum, htemp⟩ := hregs
    exact readingOk_of_zero (by omega) hhum htemp
  | onward _ hupc _ _ hdata =>
    obtain ⟨-, h24, -, h24', -⟩ := hupc
    obtain ⟨-, -, -, hhum, htemp⟩ := hdata
    obtain ⟨hhum0, htemp0⟩ := hzero (MicroState.ne_cConv_and_ne_done (by omega)).2
    exact readingOk_of_zero (by omega) (hhum.trans hhum0) (htemp.trans htemp0)
  | sample _ hfrom hto _ _ hregs =>
    obtain ⟨-, -, -, -, -, hhum, htemp⟩ := hregs
    obtain ⟨hhum0, htemp0⟩ := hzero (by rw [hfrom]; decide)
    refine readingOk_of_zero ?_ (hhum.trans hhum0) (htemp.trans htemp0)
    rcases afterClassify_cases s.idx with ⟨-, ha⟩ | ⟨-, ha⟩ <;> rw [hto, ha] <;> decide
  | pack _ hfrom hto hregs =>
    obtain ⟨-, -, -, -, -, hhum, htemp⟩ := hregs
    obtain ⟨hhum0, htemp0⟩ := hzero (by rw [hfrom]; decide)
    exact readingOk_of_zero (by rw [hto]; decide) (hhum.trans hhum0) (htemp.trans htemp0)
  | pass _ hfrom hto hpass hregs =>
    obtain ⟨-, -, -, -, hframe, hhum, htemp⟩ := hregs
    obtain ⟨hhum0, htemp0⟩ := hzero (by rw [hfrom]; decide)
    exact ⟨fun _ => ⟨hhum.trans hhum0, htemp.trans htemp0⟩, fun _ => hframe ▸ hpass,
      fun h => by rw [hto] at h; cases h⟩
  | convert _ hfrom hto hregs =>
    obtain ⟨-, -, -, -, hframe, hhum, htemp⟩ := hregs
    refine ⟨fun h => absurd hto h, fun _ => ?_, fun _ => ?_⟩
    · rw [hframe]
      exact hvalid (.inl hfrom)
    · rw [hhum, htemp, hframe]
      exact ⟨rfl, rfl⟩

/-- Settles O53, from what a step does to the core. -/
theorem readingInvariantKept : Obligations.ReadingInvariantKept := by
  unfold Obligations.ReadingInvariantKept
  exact fun s t hs h => (coreStep_of_step h).readingOk hs

/-! ## After reset -/

/-- The pin's direction and level are unknown after reset, and `IDLE` asks nothing of them (10 R50; 40 R125). -/
theorem pinOk_reset : PinOk State.reset := by
  simp [PinOk, State.reset, MicroState.code]

theorem lineOk_reset : LineOk State.reset := by
  simp [LineOk, State.reset]

/-- Settles O58: the registers are 0, the pin is unknown, and the trace and the agenda are empty (log 11). -/
theorem resetMeetsTheInvariants : Obligations.ResetMeetsTheInvariants := by
  unfold Obligations.ResetMeetsTheInvariants
  refine ⟨⟨Nat.zero_le _, Nat.zero_le _⟩, countOk_of_idx_zero rfl (by decide), ?_,
    readingOk_of_zero (by decide) rfl rfl, ⟨fun _ => ⟨rfl, rfl⟩, fun _ => rfl⟩, ?_, pinOk_reset, lineOk_reset, ?_⟩
  · exact captureOk_of_frame_zero (fun i _ => by simp [State.reset]) rfl (by decide)
  · exact fun t ht => absurd ht List.not_mem_nil
  · exact ⟨List.Pairwise.nil, fun t ht => absurd ht List.not_mem_nil⟩

end Sys2Proof.Machine

/-! # Proofs: what can stop the machine -/

namespace Sys2Proof.Machine

/-- Two micro-states have two micro-operations (30 R96). -/
theorem MicroState.instr_injective {m n : MicroState} (h : m.instr = n.instr) : m = n := by
  have hword := congrArg encode h
  rw [encode_instr, encode_instr] at hword
  injection hword with hcode
  exact MicroState.code_injective hcode

theorem State.turn_cons {s : State} {t : Turn} {ts : List Turn} (h : s.agenda = t :: ts) : s.turn = t := by
  rw [State.turn, h]

/-- With only the core's words on the bus, no turn is a bus word (20 R60). -/
theorem turn_ne_busWord_of_coreOnly {s : State} (h : CoreOnly s) (w : BitVec 36) : s.turn ≠ .busWord w := by
  intro hturn
  cases hagenda : s.agenda with
  | nil =>
    rw [State.turn_nil hagenda] at hturn
    cases hturn
  | cons t ts =>
    have hword := h t (hagenda ▸ List.mem_cons_self)
    rw [← State.turn_cons hagenda, hturn] at hword
    cases hword

/-- Whosever turn it is but the bus's, only the core in `S_CLS` can be without a next state. -/
theorem step_next_or_sCls {s : State} (hbus : ∀ w, s.turn ≠ .busWord w) :
    (∃ t, step s = .next t) ∨ (s.turn = .core ∧ s.upc = .sCls) := by
  cases hturn : s.turn with
  | core =>
    by_cases hupc : s.upc = .sCls
    · exact .inr ⟨rfl, hupc⟩
    · rw [step_core hturn]
      exact .inl (exec_next_of_ne_sCls (fun h => hupc (MicroState.instr_injective h)) s.popTurn)
  | reset c w => exact .inl ⟨_, step_reset hturn⟩
  | hostWrite r d => exact .inl ⟨_, step_hostWrite hturn⟩
  | hostRead r => exact .inl ⟨_, step_hostRead hturn⟩
  | busWord w => exact absurd hturn (hbus w)

/-- A turn of the core in `S_CLS` classifies the sample. -/
theorem step_sCls {s : State} (hturn : s.turn = .core) (hupc : s.upc = .sCls) : step s = execSCls s.popTurn := by
  rw [step_core hturn, hupc]
  rfl

/-- Where the parameter makes it one, an elapsed time at or above the timeout is a fault of `S_CLS` (43 R165). -/
theorem execSCls_of_elapsedViolation {s : State} (hr : s.tRec ≤ s.clock)
    (hf : s.params.elapsedViolation = .fault) (hl : s.params.tTimeoutUs ≤ s.servedClock .now 0#32 - s.tRec) :
    execSCls s = .fault .elapsedViolation := by
  have hforward : ¬s.servedClock .now 0#32 < s.tRec := by
    have hle := s.clock_le_servedClock .now 0#32
    omega
  have hwhy : sampleFault s.params (s.servedClock .now 0#32) s.tRec s.idx = some .elapsedViolation := by
    rw [sampleFault, if_neg hforward, if_pos ⟨hf, hl⟩]
  simp only [execSCls, State.issue_clock, State.issue_tRec, State.issue_params, State.issue_idx, hwhy]

/-- With its counter and its clock in order, `S_CLS` answers, or the parameter stops it on a long elapsed time. -/
theorem execSCls_next_or_elapsedViolation {s : State} (hi : s.idx.toNat ≤ 39) (hr : s.tRec ≤ s.clock) :
    (∃ t, execSCls s = .next t) ∨
      (s.params.elapsedViolation = .fault ∧ s.params.tTimeoutUs ≤ s.servedClock .now 0#32 - s.tRec ∧
        execSCls s = .fault .elapsedViolation) := by
  by_cases hlong : s.params.tTimeoutUs ≤ s.servedClock .now 0#32 - s.tRec
  · cases hparam : s.params.elapsedViolation with
    | classify => exact .inl ⟨_, execSCls_of_classifies (.inl hparam) hi hr⟩
    | fault => exact .inr ⟨rfl, hlong, execSCls_of_elapsedViolation hr hparam hlong⟩
  · exact .inl ⟨_, execSCls_of_classifies (.inr (by omega)) hi hr⟩

/-- The count is in the range of the sampler while `S_CLS` is the next to run (10 R23, 20 R61). -/
theorem idx_le_of_countOk_sCls {s : State} (h : CountOk s) (hupc : s.upc = .sCls) : s.idx.toNat ≤ 39 := by
  obtain ⟨-, hsampling, -⟩ := h
  exact hsampling (by rw [hupc]; decide) (by rw [hupc]; decide)

/-- Under the invariants a step answers, or the parameter stops `S_CLS` on a long elapsed time. -/
theorem step_next_or_elapsedViolation {s : State} (hcount : CountOk s) (hclock : ClockOk s) (hbus : CoreOnly s) :
    (∃ t, step s = .next t) ∨
      (s.params.elapsedViolation = .fault ∧ s.turn = .core ∧ s.upc = .sCls ∧ step s = .fault .elapsedViolation ∧
        s.params.tTimeoutUs ≤ s.servedClock .now 0#32 - s.tRec) := by
  rcases step_next_or_sCls (turn_ne_busWord_of_coreOnly hbus) with hnext | ⟨hturn, hupc⟩
  · exact .inl hnext
  · obtain ⟨-, hrec⟩ := hclock
    rw [step_sCls hturn hupc]
    rcases execSCls_next_or_elapsedViolation (s := s.popTurn) (idx_le_of_countOk_sCls hcount hupc) hrec with
      hnext | ⟨hparam, hlong, hfault⟩
    · exact .inl hnext
    · exact .inr ⟨hparam, hturn, hupc, hfault, hlong⟩

/-- Settles O60: the one way to stop asks for `ELAPSED_VIOLATION = fault`, which the default configuration is not. -/
theorem onlyTheParameterCanStopTheMachine : Obligations.OnlyTheParameterCanStopTheMachine := by
  unfold Obligations.OnlyTheParameterCanStopTheMachine
  intro s hcount hclock hbus
  rcases step_next_or_elapsedViolation hcount hclock hbus with hnext | ⟨hparam, hstop⟩
  · exact ⟨fun _ => hnext, .inl hnext⟩
  · refine ⟨fun hclassify => ?_, .inr hstop⟩
    rw [hclassify] at hparam
    cases hparam

end Sys2Proof.Machine


/-! # Proofs: the encoding (which words decode, to what, and what each micro-operation issues) -/

namespace Sys2Proof.Machine

/-! ## Capability words -/

/-- The instruction of a capability operation and its argument (30 R90). -/
def capInstr : CapOp → Word → Instr
  | .setModeOutput => .setModeOutput
  | .setModeInput => .setModeInput
  | .driveHigh => .driveHigh
  | .driveLow => .driveLow
  | .queryHigh => .queryHigh
  | .queryLow => .queryLow
  | .wait => .wait
  | .now => .now

@[simp] theorem encode_capInstr (op : CapOp) (arg : Word) : encode (capInstr op arg) = .cap (op.word arg) := by
  cases op <;> rfl

@[simp] theorem decode_cap_word (op : CapOp) (arg : Word) : decode (.cap (op.word arg)) = .ok (capInstr op arg) := by
  simp only [decode, decodeCap, CapOp.word_op, CapOp.word_arg]
  cases op <;> rfl

/-- The eight codes of 30 R90. -/
def capCodes : List (BitVec 4) := [1#4, 2#4, 3#4, 4#4, 5#4, 6#4, 8#4, 9#4]

/-- The reserved codes (30 R102). -/
def reservedCapCodes : List (BitVec 4) := [0#4, 7#4, 10#4, 11#4, 12#4, 13#4, 14#4, 15#4]

theorem mem_capCodes_iff (v : BitVec 4) : v ∈ capCodes ↔ ∃ op : CapOp, op.code = v := by
  constructor
  · intro h
    simp only [capCodes, List.mem_cons, List.not_mem_nil, or_false] at h
    rcases h with rfl | rfl | rfl | rfl | rfl | rfl | rfl | rfl
    exacts [⟨.setModeOutput, rfl⟩, ⟨.setModeInput, rfl⟩, ⟨.driveHigh, rfl⟩, ⟨.driveLow, rfl⟩, ⟨.queryHigh, rfl⟩,
      ⟨.queryLow, rfl⟩, ⟨.wait, rfl⟩, ⟨.now, rfl⟩]
  · rintro ⟨op, rfl⟩
    cases op <;> decide

/-- A word is its operation's code followed by its argument: no bit is outside the two (30 R90). -/
theorem cap_eq_append (w : BitVec 36) : w.extractLsb' 32 4 ++ w.extractLsb' 0 32 = w := by
  rw [BitVec.extractLsb'_append_extractLsb'_eq_extractLsb' (by decide)]
  simp

/-- A word with a table code is the word of an operation. -/
theorem exists_word_of_mem_capCodes {w : BitVec 36} (h : w.extractLsb' 32 4 ∈ capCodes) :
    ∃ op arg, CapOp.word op arg = w := by
  obtain ⟨op, hop⟩ := (mem_capCodes_iff _).mp h
  exact ⟨op, w.extractLsb' 0 32, by rw [CapOp.word, hop, cap_eq_append]⟩

/-- Every code is reserved or names an operation, and none does both. -/
theorem mem_reservedCapCodes_iff (v : BitVec 4) : v ∈ reservedCapCodes ↔ v ∉ capCodes := by
  revert v
  decide

/-- A reserved code is rejected by name, whatever the argument. -/
theorem decode_cap_reserved {w : BitVec 36} (h : w.extractLsb' 32 4 ∈ reservedCapCodes) :
    decode (.cap w) = .error (.reservedCapability (w.extractLsb' 32 4)) := by
  simp only [decode, decodeCap]
  generalize w.extractLsb' 32 4 = v at h ⊢
  simp only [reservedCapCodes, List.mem_cons, List.not_mem_nil, or_false] at h
  rcases h with rfl | rfl | rfl | rfl | rfl | rfl | rfl | rfl <;> rfl

theorem decode_cap_eq_ok_iff (w : BitVec 36) (i : Instr) :
    decode (.cap w) = .ok i ↔ ∃ op arg, CapOp.word op arg = w ∧ capInstr op arg = i := by
  constructor
  · intro h
    by_cases hcode : w.extractLsb' 32 4 ∈ capCodes
    · obtain ⟨op, arg, rfl⟩ := exists_word_of_mem_capCodes hcode
      rw [decode_cap_word] at h
      injection h with h
      exact ⟨op, arg, rfl, h⟩
    · rw [decode_cap_reserved ((mem_reservedCapCodes_iff _).mpr hcode)] at h
      cases h
  · rintro ⟨op, arg, rfl, rfl⟩
    exact decode_cap_word op arg

/-! ## Micro-state codes -/

theorem decode_useq_eq_ok_iff (w : BitVec 5) (i : Instr) :
    decode (.useq w) = .ok i ↔ ∃ m : MicroState, m.code = w ∧ m.instr = i := by
  constructor
  · intro h
    simp only [decode, decodeUseq] at h
    split at h
    next m hm =>
      injection h with h
      exact ⟨m, MicroState.code_of_ofCode hm, h⟩
    next => cases h
  · rintro ⟨m, rfl, rfl⟩
    exact decode_useq_code m

/-- 31 is the one code that names no micro-state (30 R104). -/
theorem exists_code_iff (w : BitVec 5) : (∃ m : MicroState, m.code = w) ↔ w ≠ 31#5 := by
  constructor
  · rintro ⟨m, rfl⟩
    cases m <;> decide
  · intro hw
    have named : ∀ v : BitVec 5, v ≠ 31#5 → (MicroState.ofCode v).isSome = true := by decide
    obtain ⟨m, hm⟩ := Option.isSome_iff_exists.mp (named w hw)
    exact ⟨m, MicroState.code_of_ofCode hm⟩

/-! ## Host data -/

/-- START's command bit is set (30 R98). -/
theorem host_bit_zero (g : BitVec 31) : (g ++ 1#1 : Word)[0] = true := by
  rw [← BitVec.getLsbD_eq_getElem, BitVec.getLsbD_append]
  rfl

@[simp] theorem decode_host_start (g : BitVec 31) : decode (.host (g ++ 1#1)) = .ok (.start g) := by
  have hrest : (g ++ 1#1).extractLsb' 1 31 = g := BitVec.extractLsb'_append_eq_left
  simp only [decode, decodeHost, host_bit_zero, if_true, hrest]

/-- A data word with bit 0 set is its ignored bits followed by a 1 (30 R98). -/
theorem host_eq_append {w : Word} (h : w[0] = true) : w.extractLsb' 1 31 ++ 1#1 = w := by
  have hbit : w.extractLsb' 0 1 = 1#1 := by
    ext j hj
    obtain rfl : j = 0 := by omega
    simpa using h
  rw [← hbit, BitVec.extractLsb'_append_extractLsb'_eq_extractLsb' (by decide)]
  simp

theorem decode_host_eq_ok_iff (w : Word) (i : Instr) :
    decode (.host w) = .ok i ↔ ∃ g : BitVec 31, g ++ 1#1 = w ∧ .start g = i := by
  constructor
  · intro h
    simp only [decode, decodeHost] at h
    split at h
    next hbit =>
      injection h with h
      exact ⟨_, host_eq_append hbit, h⟩
    next => cases h
  · rintro ⟨g, rfl, rfl⟩
    exact decode_host_start g

/-! ## Decoding and encoding -/

/-- Settles O1: the capability operations and START at every operand value; a micro-operation has no operand, and its
code is read off the table of 30 R95. -/
theorem decodeOfEncodeIsIdentity : Obligations.DecodeOfEncodeIsIdentity := by
  unfold Obligations.DecodeOfEncodeIsIdentity
  intro i
  cases i with
  | setModeOutput arg => exact decode_cap_word .setModeOutput arg
  | setModeInput arg => exact decode_cap_word .setModeInput arg
  | driveHigh arg => exact decode_cap_word .driveHigh arg
  | driveLow arg => exact decode_cap_word .driveLow arg
  | queryHigh arg => exact decode_cap_word .queryHigh arg
  | queryLow arg => exact decode_cap_word .queryLow arg
  | wait arg => exact decode_cap_word .wait arg
  | now arg => exact decode_cap_word .now arg
  | start g => exact decode_host_start g
  | _ => rfl

/-- Settles O2, format by format: what decodes is an operation's word, a micro-state's code, or START's data. -/
theorem encodeOfDecodeIsIdentity : Obligations.EncodeOfDecodeIsIdentity := by
  unfold Obligations.EncodeOfDecodeIsIdentity
  intro w i h
  cases w with
  | cap w =>
    obtain ⟨op, arg, rfl, rfl⟩ := (decode_cap_eq_ok_iff w i).mp h
    exact encode_capInstr op arg
  | useq w =>
    obtain ⟨m, rfl, rfl⟩ := (decode_useq_eq_ok_iff w i).mp h
    exact encode_instr m
  | host w =>
    obtain ⟨g, rfl, rfl⟩ := (decode_host_eq_ok_iff w i).mp h
    rfl

/-- Settles O3, from the decoder's own word for each row. -/
theorem wordsOfTheTablesDecode : Obligations.WordsOfTheTablesDecode := by
  unfold Obligations.WordsOfTheTablesDecode
  exact ⟨decode_word_setModeOutput, decode_word_wait, decode_word_now, decode_word_hOut, decode_word_hW1C,
    decode_word_sCls, decode_word_vPack, decode_word_cConv, decode_word_errChecksum, decode_word_start_ignored⟩

/-! ## Which words are instructions -/

theorem exists_decode_cap_iff (w : BitVec 36) :
    (∃ i, decode (.cap w) = .ok i) ↔ w.extractLsb' 32 4 ∈ capCodes := by
  constructor
  · rintro ⟨i, h⟩
    obtain ⟨op, arg, rfl, -⟩ := (decode_cap_eq_ok_iff w i).mp h
    rw [CapOp.word_op]
    exact (mem_capCodes_iff _).mpr ⟨op, rfl⟩
  · intro h
    obtain ⟨op, arg, rfl⟩ := exists_word_of_mem_capCodes h
    exact ⟨_, decode_cap_word op arg⟩

theorem exists_decode_useq_iff (w : BitVec 5) : (∃ i, decode (.useq w) = .ok i) ↔ w ≠ 31#5 := by
  rw [← exists_code_iff]
  constructor
  · rintro ⟨i, h⟩
    obtain ⟨m, hm, -⟩ := (decode_useq_eq_ok_iff w i).mp h
    exact ⟨m, hm⟩
  · rintro ⟨m, rfl⟩
    exact ⟨_, decode_useq_code m⟩

theorem exists_decode_host_iff (w : Word) : (∃ i, decode (.host w) = .ok i) ↔ w[0] = true := by
  constructor
  · rintro ⟨i, h⟩
    obtain ⟨g, rfl, -⟩ := (decode_host_eq_ok_iff w i).mp h
    exact host_bit_zero g
  · intro h
    exact ⟨_, (decode_host_eq_ok_iff w _).mpr ⟨_, host_eq_append h, rfl⟩⟩

/-- A reserved code on the bus is refused by name (30 R102, log 21). -/
theorem step_busWord_reserved {s : State} {w : BitVec 36}
    (hcode : w.extractLsb' 32 4 ∈ reservedCapCodes) (hturn : s.turn = .busWord w) :
    step s = .refused (.reservedCapability (w.extractLsb' 32 4)) := by
  simp only [step, fetch_busWord hturn, decode_cap_reserved hcode, undecoded]

/-- Settles O4: one equivalence per format, and the refusal on the bus. -/
theorem reservedWordsAreRefused : Obligations.ReservedWordsAreRefused := by
  unfold Obligations.ReservedWordsAreRefused
  exact ⟨exists_decode_cap_iff, fun _ _ => step_busWord_reserved, exists_decode_useq_iff, exists_decode_host_iff⟩

/-! ## A placed word -/

/-- A word that decodes is what the next step fetches once it is placed. -/
theorem fetch_placeWord {cw : CodeWord} {i : Instr} (h : decode cw = .ok i) (s : State) :
    fetch (placeWord cw s) = .word cw (placeWord cw s).popTurn := by
  cases cw with
  | cap w => exact fetch_busWord rfl
  | host w => exact fetch_hostWrite_zero rfl
  | useq w =>
    obtain ⟨m, rfl, -⟩ := (decode_useq_eq_ok_iff w i).mp h
    simp only [placeWord, MicroState.ofCode_code]
    exact fetch_core rfl

theorem decodeTableWord_eq_some_iff (nbits w : Nat) (i : Instr) :
    decodeTableWord nbits w = some i ↔ ∃ cw, tableCodeWord nbits w = some cw ∧ decode cw = .ok i := by
  simp only [decodeTableWord]
  cases tableCodeWord nbits w with
  | none => simp
  | some cw => cases h : decode cw <;> simp [h]

/-- Settles O6: the placed word is the one fetched, and a step runs what it decodes to. -/
theorem placedWordRunsNext : Obligations.PlacedWordRunsNext := by
  unfold Obligations.PlacedWordRunsNext
  intro s nbits w i h
  obtain ⟨cw, hcw, hd⟩ := (decodeTableWord_eq_some_iff nbits w i).mp h
  simp only [State.withFetchWord, hcw]
  exact step_of_fetch_word (fetch_placeWord hd s) hd

/-! ## `WAIT` -/

/-- Issuing an operation is one line of the trace and one move of the environment (00 R10, R11). -/
theorem issued_issue (s : State) (op : CapOp) (arg : Word) :
    Issued s (s.issue op arg) op arg (s.responseOf op arg) := ⟨rfl, rfl, rfl, rfl⟩

/-- No operation changes the core or its surroundings (40 R110). -/
theorem coreSame_issue (s : State) (op : CapOp) (arg : Word) : CoreSame s (s.issue op arg) :=
  ⟨rfl, ⟨rfl, rfl, rfl, rfl, rfl, rfl, rfl⟩, rfl, rfl, rfl⟩

/-- The two waits of the handshake are the only ones (42 R144, R146). -/
theorem issuedBy_eq_wait_iff (p : Params) (m : MicroState) (a : Word) :
    issuedBy p m = some (.wait, a) ↔ (m = .hHold ∧ a = p.tStartLowUs) ∨ (m = .hRel ∧ a = p.tReleaseUs) := by
  cases m with
  | hHold | hRel => simp [issuedBy, eq_comm (b := a)]
  | _ => simp [issuedBy]

/-- With the default parameters no wait is for 0 (40 R118). -/
theorem issuedBy_defaults_ne_wait_zero (m : MicroState) : issuedBy Config.defaults m ≠ some (.wait, 0#32) := by
  rw [Ne, issuedBy_eq_wait_iff]
  rintro (⟨-, h⟩ | ⟨-, h⟩) <;> exact absurd h (by decide)

/-- In the general environment an operation takes what time the move says, and no more (40 R126). -/
theorem servedClock_facing_general {s : State} (h : s.params.environment = .general) (m : EnvMove) (op : CapOp)
    (arg : Word) : (s.facing m).servedClock op arg = s.clock + m.delay := by
  simp [State.servedClock, State.imposedTime, State.nextMove, State.facing, h]

/-- Settles O12: `WAIT` is one issue; in the general environment a move without delay leaves the clock where it is. -/
theorem waitOperation : Obligations.WaitOperation := by
  unfold Obligations.WaitOperation
  refine ⟨fun _ => rfl, issuedBy_eq_wait_iff, issuedBy_defaults_ne_wait_zero, fun arg s => ?_, fun arg s hgen => ?_⟩
  · exact ⟨s.issue .wait arg, rfl, s.clock_le_servedClock .wait arg, fun href => s.least_le_servedClock href .wait arg,
      issued_issue s .wait arg, ⟨rfl, rfl⟩, coreSame_issue s .wait arg⟩
  · exact ⟨⟨0, .low⟩, _, rfl, issued_issue _ .wait arg, servedClock_facing_general hgen _ .wait arg⟩

/-! ## What each micro-operation issues -/

/-- The state once the environment has served what a row of 30 R96 issues: `none` issues nothing. -/
def State.issueRow (s : State) : Option (CapOp × Word) → State
  | none => s
  | some (op, arg) => s.issue op arg

/-- What does nothing more to the environment or the trace leaves the operation issued. -/
theorem issued_of_issuedNothing {s t : State} {op : CapOp} {arg : Word} (h : IssuedNothing (s.issue op arg) t) :
    Issued s t op arg (s.responseOf op arg) := by
  obtain ⟨htrace, -, -, -, -, hscript, hlasting, htick⟩ := h
  exact ⟨htrace, htick, hscript, hlasting⟩

/-- A deadline check issues its `NOW` and nothing else, with either outcome (41 R133). -/
theorem issuedNothing_checkDeadline (query : MicroState) (s : State) :
    IssuedNothing (s.issue .now 0#32) (checkDeadline query s) := by
  rcases checkDeadline_cases query s with ⟨-, h⟩ | ⟨-, h⟩ <;> rw [h] <;> exact ⟨rfl, rfl, rfl, rfl, rfl, rfl, rfl, rfl⟩

/-- The checksum test issues nothing, with either outcome (44 R178). -/
theorem issuedNothing_execVChk {s t : State} (h : execVChk s = .next t) : IssuedNothing s t := by
  injection h with h
  subst h
  cases s.frame.valid <;> exact ⟨rfl, rfl, rfl, rfl, rfl, rfl, rfl, rfl⟩

/-- After the operation of its row, a micro-operation that completes does nothing to the environment or the trace. -/
theorem issuedNothing_exec_micro {m : MicroState} {s t : State} (h : exec m.instr s = .next t) :
    IssuedNothing (s.issueRow (issuedBy s.params m)) t := by
  cases m with
  | sCls =>
    obtain ⟨-, rfl⟩ := execSCls_next h
    exact ⟨rfl, rfl, rfl, rfl, rfl, rfl, rfl, rfl⟩
  | hW1C | hW2C | hW3C | sWhC | sWlC =>
    injection h with h
    subst h
    exact issuedNothing_checkDeadline _ s
  | vChk => exact issuedNothing_execVChk h
  | _ =>
    injection h with h
    subst h
    exact ⟨rfl, rfl, rfl, rfl, rfl, rfl, rfl, rfl⟩

/-- Settles O16: the table row by row, and what stands in `issueRow` is what the capability word does by itself. -/
theorem microOperationsIssueTheirRow : Obligations.MicroOperationsIssueTheirRow := by
  unfold Obligations.MicroOperationsIssueTheirRow
  refine ⟨fun p => rfl, fun m s t h => ?_⟩
  have hrow := issuedNothing_exec_micro h
  cases hissues : issuedBy s.params m with
  | none =>
    rw [hissues] at hrow
    exact hrow
  | some x =>
    obtain ⟨op, arg⟩ := x
    rw [hissues] at hrow
    obtain ⟨i, hd, he⟩ := decode_capWord op arg
    obtain ⟨htrace, henv⟩ := hrow
    exact ⟨_, issued_of_issuedNothing ⟨htrace, henv⟩, i, _, hd, he s, henv, htrace⟩

end Sys2Proof.Machine

/-! # Proofs: the capability operations (what a step does to the environment, the invariants on it, each operation) -/

namespace Sys2Proof.Machine

/-! ## What a step does to the environment -/

/-- What one step does to the environment and the trace, whosever turn it is. -/
inductive EnvStep (s t : State) : Prop
  /-- Nothing: at rest, in the validator and converter, by the host, by a reset whose withdrawn operation is dropped. -/
  | quiet (h : IssuedNothing s t)
  /-- One operation is issued and answered, by the core or on the bus (00 R10). -/
  | issued (op : CapOp) (arg : Word) (h : IssuedNothing (s.issue op arg) t)
  /-- The operation a reset withdrew is performed all the same, without a line in the trace (93 U11, log 8). -/
  | withdrawn (op : CapOp) (arg : Word) (h : IssuedNothing (s.environment op arg) t)

/-- What follows a turn taken from the agenda is the same to the environment as without the taking. -/
theorem envStep_of_popTurn {s t : State} (h : EnvStep s.popTurn t) : EnvStep s t := by
  cases h with
  | quiet h => exact .quiet h
  | issued op arg h => exact .issued op arg h
  | withdrawn op arg h => exact .withdrawn op arg h

/-- A micro-operation issues what its row says, or nothing (30 R96). -/
theorem envStep_exec_micro {s t : State} (h : exec s.upc.instr s = .next t) : EnvStep s t := by
  have hrow := issuedNothing_exec_micro h
  cases hissues : issuedBy s.params s.upc with
  | none => exact .quiet (by rwa [hissues] at hrow)
  | some x => exact .issued x.1 x.2 (by rwa [hissues] at hrow)

theorem envStep_resetCore_withdraw (s : State) (completes : Bool) : EnvStep s (s.withdraw completes).resetCore := by
  rcases s.withdraw_cases completes with h | ⟨op, arg, -, -, h⟩ <;> rw [h]
  · exact .quiet ⟨rfl, rfl, rfl, rfl, rfl, rfl, rfl, rfl⟩
  · exact .withdrawn op arg ⟨rfl, rfl, rfl, rfl, rfl, rfl, rfl, rfl⟩

theorem envStep_of_step {s t : State} (h : step s = .next t) : EnvStep s t := by
  rcases step_cases h with ⟨-, hexec⟩ | ⟨c, w, -, rfl⟩ | ⟨r, d, -, rfl⟩ | ⟨d, -, -, -, rfl⟩ | ⟨r, -, rfl⟩ |
    ⟨w, op, arg, -, rfl⟩
  · exact envStep_of_popTurn (envStep_exec_micro (s := s.popTurn) hexec)
  · exact envStep_of_popTurn (envStep_resetCore_withdraw s.popTurn c)
  · exact .quiet (issuedNothing_popTurn s)
  · exact .quiet ⟨rfl, rfl, rfl, rfl, rfl, rfl, rfl, rfl⟩
  · exact .quiet (issuedNothing_popTurn_answerHost s r)
  · exact .issued op arg ⟨rfl, rfl, rfl, rfl, rfl, rfl, rfl, rfl⟩

/-! ## The driven line -/

theorem lineOk_of_environmentSame {s t : State} (h : EnvironmentSame s t) (hs : LineOk s) : LineOk t := by
  obtain ⟨hmode, hout, hline, -⟩ := h
  rwa [LineOk, hmode, hout, hline]

/-- Serving any operation puts the driven level on the line, whatever was there before (log 17). -/
theorem lineOk_environment (s : State) (op : CapOp) (arg : Word) : LineOk (s.environment op arg) :=
  ⟨fun hmode => (State.servedLine_output hmode).1, fun hmode => (State.servedLine_output hmode).2⟩

/-- Settles O56: a step either leaves pin and line alone or has an operation served. -/
theorem drivenLineInvariantKept : Obligations.DrivenLineInvariantKept := by
  unfold Obligations.DrivenLineInvariantKept
  intro s t hs h
  cases envStep_of_step h with
  | quiet h => exact lineOk_of_environmentSame h.2 hs
  | issued op arg h => exact lineOk_of_environmentSame h.2 (lineOk_environment s op arg)
  | withdrawn op arg h => exact lineOk_of_environmentSame h.2 (lineOk_environment s op arg)

/-! ## The order of the `NOW` responses -/

theorem traceOk_of_issuedNothing {s t : State} (h : IssuedNothing s t) (hs : TraceOk s) : TraceOk t := by
  obtain ⟨htrace, -, -, -, hclock, -⟩ := h
  rwa [TraceOk, htrace, hclock]

/-- Time only goes forward, so what is not ahead of the clock stays so (40 R120). -/
theorem traceOk_environment {s : State} (op : CapOp) (arg : Word) (hs : TraceOk s) :
    TraceOk (s.environment op arg) := by
  obtain ⟨hsorted, hle⟩ := hs
  exact ⟨hsorted, fun t ht => (hle t ht).trans (s.clock_le_servedClock op arg)⟩

/-- Only `NOW` adds a timestamp to the trace, and it adds the clock (40 R119). -/
theorem nowResponses_issue (s : State) (op : CapOp) (arg : Word) :
    nowResponses (s.issue op arg).trace = nowResponses s.trace ∨
      nowResponses (s.issue op arg).trace = s.servedClock op arg :: nowResponses s.trace := by
  cases op with
  | now => exact .inr rfl
  | _ => exact .inl rfl

theorem traceOk_issue {s : State} (op : CapOp) (arg : Word) (hs : TraceOk s) : TraceOk (s.issue op arg) := by
  obtain ⟨hsorted, hle⟩ := traceOk_environment op arg hs
  simp only [State.environment_trace, State.environment_clock] at hsorted hle
  rw [TraceOk, State.issue_clock]
  rcases nowResponses_issue s op arg with h | h <;> rw [h]
  · exact ⟨hsorted, hle⟩
  · exact ⟨List.pairwise_cons.mpr ⟨hle, hsorted⟩, List.forall_mem_cons.mpr ⟨Nat.le_refl _, hle⟩⟩

/-- Settles O57: a new timestamp is the clock, which no earlier one is ahead of. -/
theorem timestampsNeverDecrease : Obligations.TimestampsNeverDecrease := by
  unfold Obligations.TimestampsNeverDecrease
  intro s t hs h
  cases envStep_of_step h with
  | quiet h => exact traceOk_of_issuedNothing h hs
  | issued op arg h => exact traceOk_of_issuedNothing h (traceOk_issue op arg hs)
  | withdrawn op arg h => exact traceOk_of_issuedNothing h (traceOk_environment op arg hs)

/-! ## The recorded timestamps -/

theorem clockOk_of_registersCleared {t : State} (h : RegistersCleared t) : ClockOk t := by
  obtain ⟨hentry, hrec, -⟩ := h
  rw [ClockOk, hentry, hrec]
  exact ⟨Nat.zero_le _, Nat.zero_le _⟩

theorem clockOk_issue {s : State} (op : CapOp) (arg : Word) (hs : ClockOk s) : ClockOk (s.issue op arg) := by
  obtain ⟨hentry, hrec⟩ := hs
  have hclock := s.clock_le_servedClock op arg
  exact ⟨hentry.trans hclock, hrec.trans hclock⟩

/-- A level-wait takes a timestamp from the clock, keeps it, or clears it (41 R131 to R133). -/
theorem clockOk_of_wait {s t : State} {w : WaitInstance} (hs : ClockOk s)
    (h : (s.upc = w.entry ∧ t = takeEntry w.query s) ∨
      (s.upc = w.query ∧ t = queryPin w.target w.success w.check s) ∨
      (s.upc = w.check ∧ t = checkDeadline w.query s)) : ClockOk t := by
  rcases h with ⟨-, rfl⟩ | ⟨-, rfl⟩ | ⟨-, rfl⟩
  · exact ⟨Nat.le_refl _, (clockOk_issue .now 0#32 hs).2⟩
  · exact clockOk_issue (queryOp w.target) 0#32 hs
  · rcases checkDeadline_cases w.query s with ⟨-, h⟩ | ⟨-, h⟩ <;> rw [h]
    · exact clockOk_of_registersCleared (registersCleared_raiseError _ _)
    · exact clockOk_issue .now 0#32 hs

theorem clockOk_exec_micro {s t : State} (hs : ClockOk s) (h : exec s.upc.instr s = .next t) : ClockOk t := by
  rcases exec_micro_cases h with ⟨-, rfl⟩ | ⟨op, arg, onward, -, rfl⟩ | ⟨w, -, hwait⟩ | ⟨-, rfl⟩ | ⟨-, -, rfl⟩ |
    ⟨-, rfl⟩ | ⟨-, -, rfl⟩ | ⟨-, -, rfl⟩ | ⟨-, rfl⟩
  · exact hs
  · exact clockOk_issue op arg hs
  · exact clockOk_of_wait hs hwait
  · exact ⟨(clockOk_issue .now 0#32 hs).1, Nat.le_refl _⟩
  · exact clockOk_issue .now 0#32 hs
  · exact hs
  · exact hs
  · exact clockOk_of_registersCleared (registersCleared_raiseError _ _)
  · exact hs

/-- Settles O50, turn by turn: a timestamp is taken from the clock or cleared, and the clock only goes forward. -/
theorem clockInvariantKept : Obligations.ClockInvariantKept := by
  unfold Obligations.ClockInvariantKept
  intro s t hs h
  rcases step_cases h with ⟨-, hexec⟩ | ⟨c, w, -, rfl⟩ | ⟨r, d, -, rfl⟩ | ⟨d, -, -, -, rfl⟩ | ⟨r, -, rfl⟩ |
    ⟨w, op, arg, -, rfl⟩
  · exact clockOk_exec_micro (s := s.popTurn) hs hexec
  · exact clockOk_of_registersCleared (registersCleared_resetCore _)
  · exact hs
  · exact clockOk_of_registersCleared (registersCleared_beginReadout _)
  · exact hs
  · exact clockOk_issue (s := s.popTurn) op arg hs

/-! ## The issuers of each operation -/

/-- The micro-states that issue an operation: the column "issues" of 30 R96, read backwards. -/
def issuers : CapOp → List MicroState
  | .setModeOutput => [.hOut]
  | .setModeInput => [.hIn]
  | .driveHigh => [.hHi0, .hHi1]
  | .driveLow => [.hLo]
  | .queryHigh => [.hW2Q, .sWhQ]
  | .queryLow => [.hW1Q, .hW3Q, .sWlQ]
  | .wait => [.hHold, .hRel]
  | .now => [.hW1T, .hW1C, .hW2T, .hW2C, .hW3T, .hW3C, .sWhT, .sWhC, .sRec, .sWlT, .sWlC, .sCls]

/-- An operation without an argument is issued by its issuers only, with argument 0 (30 R90, R96). -/
theorem issuedBy_eq_some_iff {op : CapOp} (hop : op ≠ .wait) (p : Params) (m : MicroState) (a : Word) :
    issuedBy p m = some (op, a) ↔ m ∈ issuers op ∧ a = 0#32 := by
  cases op with
  | wait => exact absurd rfl hop
  | _ => cases m <;> simp [issuedBy, issuers, eq_comm (b := a)]

end Sys2Proof.Machine

namespace Sys2Proof.Machine

/-! ## Mode discipline -/

/-- No micro-operation touches the parameters, the agenda or the host port. -/
theorem surroundingsSame_exec_micro {s t : State} (h : exec s.upc.instr s = .next t) : SurroundingsSame s t := by
  rcases exec_micro_cases h with ⟨-, rfl⟩ | ⟨op, arg, onward, -, rfl⟩ | ⟨w, -, hwait⟩ | ⟨-, rfl⟩ | ⟨-, -, rfl⟩ |
    ⟨-, rfl⟩ | ⟨-, -, rfl⟩ | ⟨-, -, rfl⟩ | ⟨-, rfl⟩
  case inr.inr.inl =>
    rcases hwait with ⟨-, rfl⟩ | ⟨-, rfl⟩ | ⟨-, rfl⟩
    · exact ⟨rfl, rfl, rfl⟩
    · exact ⟨rfl, rfl, rfl⟩
    · rcases checkDeadline_cases w.query s with ⟨-, h⟩ | ⟨-, h⟩ <;> rw [h] <;> exact ⟨rfl, rfl, rfl⟩
  all_goals exact ⟨rfl, rfl, rfl⟩

/-- A step takes its turn from the agenda and changes nothing else there. -/
theorem agenda_of_step {s t : State} (h : step s = .next t) : t.agenda = s.agenda.tail := by
  rcases step_cases h with ⟨-, hexec⟩ | ⟨c, w, -, rfl⟩ | ⟨r, d, -, rfl⟩ | ⟨d, -, -, -, rfl⟩ | ⟨r, -, rfl⟩ |
    ⟨w, op, arg, -, rfl⟩
  · exact (surroundingsSame_exec_micro (s := s.popTurn) hexec).2.1
  · rcases s.popTurn.withdraw_cases c with h | ⟨op, arg, -, -, h⟩ <;> rw [h] <;> rfl
  · rfl
  · rfl
  · rfl
  · rfl

theorem coreOnly_of_step {s t : State} (h : step s = .next t) (hs : CoreOnly s) : CoreOnly t := by
  intro turn hturn
  rw [agenda_of_step h] at hturn
  exact hs turn (List.mem_of_mem_tail hturn)

/-- Before `H_HI0` the discipline asks for nothing. -/
theorem pinOk_of_code_le_one {t : State} (h : t.upc.code.toNat ≤ 1) : PinOk t := by
  refine ⟨fun h2 _ => by omega, fun hhigh => ?_, fun hlow => ?_, fun h8 => by omega⟩
  · rcases hhigh with hu | hu | hu <;> rw [hu] at h <;> exact absurd h (by decide)
  · rcases hlow with hu | hu <;> rw [hu] at h <;> exact absurd h (by decide)

/-- After `H_IN` the discipline is input mode with the latch high. -/
theorem pinOk_of_listening {t : State} (hcode : 8 ≤ t.upc.code.toNat) (hpin : t.pinMode = .input ∧ t.pinOut = .high) :
    PinOk t := by
  obtain ⟨hmode, hout⟩ := hpin
  refine ⟨fun _ h7 => by omega, fun _ => hout, fun hlow => ?_, fun _ => ⟨hmode, hout⟩⟩
  rcases hlow with h | h <;> rw [h] at hcode <;> exact absurd hcode (by decide)

/-- Each control step leaves the pin as the next one's micro-state asks (42 R141 to R147). -/
theorem pinOk_controlStep {s : State} {op : CapOp} {arg : Word} {onward : MicroState} (hs : PinOk s)
    (hrow : (s.upc, op, arg, onward) ∈
      [(.hOut, .setModeOutput, 0#32, .hHi0), (.hHi0, .driveHigh, 0#32, .hLo), (.hLo, .driveLow, 0#32, .hHold),
        (.hHold, .wait, s.params.tStartLowUs, .hHi1), (.hHi1, .driveHigh, 0#32, .hRel),
        (.hRel, .wait, s.params.tReleaseUs, .hIn), (.hIn, .setModeInput, 0#32, .hW1T)]) :
    PinOk (controlStep op arg onward s) := by
  simp only [List.mem_cons, Prod.mk.injEq, List.not_mem_nil, or_false] at hrow
  obtain ⟨hmode, hhigh, hlow, -⟩ := hs
  rcases hrow with ⟨hu, rfl, -, rfl⟩ | ⟨hu, rfl, -, rfl⟩ | ⟨hu, rfl, -, rfl⟩ | ⟨hu, rfl, -, rfl⟩ |
    ⟨hu, rfl, -, rfl⟩ | ⟨hu, rfl, -, rfl⟩ | ⟨hu, rfl, -, rfl⟩ <;>
    simp_all [PinOk, controlStep, State.servedMode, State.servedOut, pinModeAfter, pinOutAfter, MicroState.code]

/-- From `H_W1_T` on the core only reads, so the pin keeps listening. -/
theorem pinOk_of_pinSame {s t : State} (hs : PinOk s) (hfrom : 8 ≤ s.upc.code.toNat) (hto : 8 ≤ t.upc.code.toNat)
    (hpin : PinSame s t) : PinOk t := by
  obtain ⟨hmode, hout⟩ := hpin
  obtain ⟨-, -, -, hlisten⟩ := hs
  exact pinOk_of_listening hto (by rw [hmode, hout]; exact hlisten hfrom)

/-- The five level-waits follow the handshake's control steps, each with four codes in a row (30 R95, 41 R135). -/
theorem codes_of_mem_waitInstances : ∀ w ∈ waitInstances,
    8 ≤ w.entry.code.toNat ∧ w.query.code.toNat = w.entry.code.toNat + 1 ∧
      w.check.code.toNat = w.query.code.toNat + 1 ∧ w.success.code.toNat = w.check.code.toNat + 1 ∧
      w.success.code.toNat ≤ 24 := by
  decide

/-- A query leaves the pin as it is, for either level (40 R116, R117). -/
theorem pinSame_issue_query (s : State) (target : Level) (arg : Word) : PinSame s (s.issue (queryOp target) arg) := by
  cases target <;> exact ⟨rfl, rfl⟩

theorem pinSame_checkDeadline (query : MicroState) (s : State) : PinSame s (checkDeadline query s) := by
  rcases checkDeadline_cases query s with ⟨-, h⟩ | ⟨-, h⟩ <;> rw [h] <;> exact ⟨rfl, rfl⟩

theorem le_code_queryPin {w : WaitInstance} (hw : w ∈ waitInstances) (s : State) :
    8 ≤ (queryPin w.target w.success w.check s).upc.code.toNat := by
  obtain ⟨h8, hq, hc, hs, -⟩ := codes_of_mem_waitInstances w hw
  rcases queryPin_cases w.target w.success w.check s with ⟨-, h⟩ | ⟨-, h⟩ <;> rw [h, State.setUpc_upc] <;> omega

theorem le_code_checkDeadline {w : WaitInstance} (hw : w ∈ waitInstances) (s : State) :
    8 ≤ (checkDeadline w.query s).upc.code.toNat := by
  obtain ⟨h8, hq, -⟩ := codes_of_mem_waitInstances w hw
  rcases checkDeadline_cases w.query s with ⟨-, h⟩ | ⟨-, h⟩ <;> rw [h]
  · rw [State.raiseError_upc]
    decide
  · rw [State.setUpc_upc]
    omega

/-- A level-wait reads the line and leaves the pin as it is. -/
theorem pinOk_of_wait {s t : State} {w : WaitInstance} (hs : PinOk s) (hw : w ∈ waitInstances)
    (h : (s.upc = w.entry ∧ t = takeEntry w.query s) ∨
      (s.upc = w.query ∧ t = queryPin w.target w.success w.check s) ∨
      (s.upc = w.check ∧ t = checkDeadline w.query s)) : PinOk t := by
  obtain ⟨h8, hq, hc, -⟩ := codes_of_mem_waitInstances w hw
  rcases h with ⟨hu, rfl⟩ | ⟨hu, rfl⟩ | ⟨hu, rfl⟩
  · exact pinOk_of_pinSame hs (hu ▸ h8) (by rw [takeEntry, State.setUpc_upc]; omega) ⟨rfl, rfl⟩
  · exact pinOk_of_pinSame hs (by rw [hu]; omega) (le_code_queryPin hw s) (pinSame_issue_query s w.target 0#32)
  · exact pinOk_of_pinSame hs (by rw [hu]; omega) (le_code_checkDeadline hw s) (pinSame_checkDeadline w.query s)

theorem le_code_afterClassify (idx : BitVec 6) : 8 ≤ (afterClassify idx).code.toNat := by
  rcases afterClassify_cases idx with ⟨-, h⟩ | ⟨-, h⟩ <;> rw [h] <;> decide

theorem pinOk_exec_micro {s t : State} (hs : PinOk s) (h : exec s.upc.instr s = .next t) : PinOk t := by
  rcases exec_micro_cases h with ⟨-, rfl⟩ | ⟨op, arg, onward, hrow, rfl⟩ | ⟨w, hw, hwait⟩ | ⟨hu, rfl⟩ |
    ⟨hu, -, rfl⟩ | ⟨hu, rfl⟩ | ⟨hu, -, rfl⟩ | ⟨hu, -, rfl⟩ | ⟨hu, rfl⟩
  · exact hs
  · exact pinOk_controlStep hs hrow
  · exact pinOk_of_wait hs hw hwait
  · exact pinOk_of_pinSame hs (hu ▸ by decide) (by rw [State.setUpc_upc]; decide) ⟨rfl, rfl⟩
  · exact pinOk_of_pinSame hs (hu ▸ by decide) (le_code_afterClassify s.idx) ⟨rfl, rfl⟩
  · exact pinOk_of_pinSame hs (hu ▸ by decide) (by rw [State.setUpc_upc]; decide) ⟨rfl, rfl⟩
  · exact pinOk_of_pinSame hs (hu ▸ by decide) (by rw [State.setUpc_upc]; decide) ⟨rfl, rfl⟩
  · exact pinOk_of_pinSame hs (hu ▸ by decide) (by rw [State.raiseError_upc]; decide) ⟨rfl, rfl⟩
  · exact pinOk_of_pinSame hs (hu ▸ by decide) (by rw [State.setUpc_upc]; decide) ⟨rfl, rfl⟩

/-- Without bus words (log 6), a step keeps the mode discipline. -/
theorem pinOk_of_step {s t : State} (hcore : CoreOnly s) (hs : PinOk s) (h : step s = .next t) : PinOk t := by
  rcases step_cases h with ⟨-, hexec⟩ | ⟨c, w, -, rfl⟩ | ⟨r, d, -, rfl⟩ | ⟨d, -, -, -, rfl⟩ | ⟨r, -, rfl⟩ |
    ⟨w, op, arg, hturn, -⟩
  · exact pinOk_exec_micro (s := s.popTurn) hs hexec
  · exact pinOk_of_code_le_one (by rw [State.resetCore_upc]; decide)
  · exact hs
  · exact pinOk_of_code_le_one (by rw [State.beginReadout_upc]; decide)
  · exact hs
  · exact absurd hturn (turn_ne_busWord_of_coreOnly hcore w)

/-- The drives are issued from `H_HI0` to `H_IN` (42 R142 to R145). -/
theorem code_of_drive {p : Params} {m : MicroState} {a : Word}
    (h : issuedBy p m = some (.driveHigh, a) ∨ issuedBy p m = some (.driveLow, a)) :
    2 ≤ m.code.toNat ∧ m.code.toNat ≤ 7 := by
  have hhigh : ∀ m ∈ issuers .driveHigh, 2 ≤ m.code.toNat ∧ m.code.toNat ≤ 7 := by decide
  have hlow : ∀ m ∈ issuers .driveLow, 2 ≤ m.code.toNat ∧ m.code.toNat ≤ 7 := by decide
  rcases h with h | h
  · exact hhigh m ((issuedBy_eq_some_iff (by decide) p m a).mp h).1
  · exact hlow m ((issuedBy_eq_some_iff (by decide) p m a).mp h).1

/-- The queries are issued after `H_IN` (42 R148 to R150; 43 R161, R163). -/
theorem code_of_query {p : Params} {m : MicroState} {a : Word}
    (h : issuedBy p m = some (.queryHigh, a) ∨ issuedBy p m = some (.queryLow, a)) : 8 ≤ m.code.toNat := by
  have hhigh : ∀ m ∈ issuers .queryHigh, 8 ≤ m.code.toNat := by decide
  have hlow : ∀ m ∈ issuers .queryLow, 8 ≤ m.code.toNat := by decide
  rcases h with h | h
  · exact hhigh m ((issuedBy_eq_some_iff (by decide) p m a).mp h).1
  · exact hlow m ((issuedBy_eq_some_iff (by decide) p m a).mp h).1

/-- Settles O55: the pin follows the control steps, and no other micro-operation touches it. -/
theorem modeDisciplineKept : Obligations.ModeDisciplineKept := by
  unfold Obligations.ModeDisciplineKept
  refine ⟨fun s t hcore hs h => ⟨coreOnly_of_step h hcore, pinOk_of_step hcore hs h⟩, fun s a hs => ?_⟩
  obtain ⟨hmode, -, -, hlisten⟩ := hs
  exact ⟨fun h => hmode (code_of_drive h).1 (code_of_drive h).2, fun h => (hlisten (code_of_query h)).1,
    fun h => hlisten (by omega)⟩

/-! ## Each operation by itself -/

/-- In the reference environment a query is answered by the line (40 R116, R117). -/
theorem seenLevel_reference {s : State} (h : s.params.environment = .reference) (op : CapOp) :
    s.seenLevel op = s.servedLine op := by
  simp only [State.seenLevel, h]

/-- In the general environment a query is answered by the move, whatever the pin does (40 R126). -/
theorem seenLevel_general {s : State} (h : s.params.environment = .general) (op : CapOp) :
    s.seenLevel op = s.nextMove.level := by
  simp only [State.seenLevel, h]

theorem servedLine_high {s : State} (op : CapOp) (hmode : s.servedMode op = .output) (hout : s.servedOut op = .high) :
    s.servedLine op = .high := (State.servedLine_output hmode).1 hout

theorem servedLine_low {s : State} (op : CapOp) (hmode : s.servedMode op = .output) (hout : s.servedOut op = .low) :
    s.servedLine op = .low := (State.servedLine_output hmode).2 hout

/-- Settles O9: each is one issue; the driven line has the latched level and the released one the environment's. -/
theorem setModeOperations : Obligations.SetModeOperations := by
  unfold Obligations.SetModeOperations
  refine ⟨rfl, rfl, fun p m a => ⟨?_, ?_⟩, fun arg s => ?_, fun arg s => ?_, fun s => ⟨_, rfl, rfl⟩⟩
  · simpa [issuers] using issuedBy_eq_some_iff (op := .setModeOutput) (by decide) p m a
  · simpa [issuers] using issuedBy_eq_some_iff (op := .setModeInput) (by decide) p m a
  · obtain ⟨hhigh, hlow⟩ := State.servedLine_output (s := s) (op := .setModeOutput) rfl
    exact ⟨s.issue .setModeOutput arg, rfl, rfl, rfl, hhigh, hlow, s.clock_le_servedClock .setModeOutput arg,
      issued_issue s .setModeOutput arg, coreSame_issue s .setModeOutput arg⟩
  · exact ⟨s.issue .setModeInput arg, rfl, rfl, rfl, State.servedLine_input (s := s) (op := .setModeInput) rfl,
      s.clock_le_servedClock .setModeInput arg, issued_issue s .setModeInput arg, coreSame_issue s .setModeInput arg⟩

/-- Settles O10: each is one issue; the line follows the latch it has just written, in output mode only. -/
theorem driveOperations : Obligations.DriveOperations := by
  unfold Obligations.DriveOperations
  refine ⟨rfl, rfl, fun p m a => ⟨?_, ?_⟩, fun arg s => ?_, fun arg s => ?_⟩
  · simpa [issuers] using issuedBy_eq_some_iff (op := .driveHigh) (by decide) p m a
  · simpa [issuers] using issuedBy_eq_some_iff (op := .driveLow) (by decide) p m a
  · exact ⟨s.issue .driveHigh arg, rfl, rfl, rfl, fun hmode => servedLine_high .driveHigh hmode rfl,
      State.servedLine_undriven (op := .driveHigh), s.clock_le_servedClock .driveHigh arg,
      issued_issue s .driveHigh arg, coreSame_issue s .driveHigh arg⟩
  · exact ⟨s.issue .driveLow arg, rfl, rfl, rfl, fun hmode => servedLine_low .driveLow hmode rfl,
      State.servedLine_undriven (op := .driveLow), s.clock_le_servedClock .driveLow arg,
      issued_issue s .driveLow arg, coreSame_issue s .driveLow arg⟩

/-- The operation that queries for a level takes any argument and ignores it (30 R90). -/
def queryInstr : Level → Word → Instr
  | .low => .queryLow
  | .high => .queryHigh

@[simp] theorem exec_queryInstr (target : Level) (arg : Word) (s : State) :
    exec (queryInstr target arg) s = .next (s.issue (queryOp target) arg) := by
  cases target <;> rfl

/-- What either query does in every state, in either environment (40 R116, R117, R126). -/
theorem exec_query (target : Level) (arg : Word) (s : State) :
    ∃ t r, exec (queryInstr target arg) s = .next t ∧ Issued s t (queryOp target) arg (.bit r) ∧
      (s.params.environment = .reference → (r = true ↔ t.line = target)) ∧
      (s.params.environment = .general → (r = true ↔ s.nextMove.level = target)) ∧
      (s.pinMode ≠ .output → t.line = s.nextMove.level) ∧ PinSame s t ∧ s.clock ≤ t.clock ∧ CoreSame s t := by
  obtain ⟨(hmode : s.servedMode (queryOp target) = s.pinMode), hout⟩ := pinSame_issue_query s target arg
  refine ⟨s.issue (queryOp target) arg, s.seenLevel (queryOp target) == target, exec_queryInstr target arg s, ?_,
    fun href => ?_, fun hgen => ?_, fun hfree => ?_, ⟨hmode, hout⟩, s.clock_le_servedClock (queryOp target) arg,
    coreSame_issue s (queryOp target) arg⟩
  · exact State.responseOf_query s target arg ▸ issued_issue s (queryOp target) arg
  · rw [seenLevel_reference href, beq_iff_eq, State.issue_line]
  · rw [seenLevel_general hgen, beq_iff_eq]
  · exact State.servedLine_undriven (by rwa [hmode])

/-- In the general environment a query can be answered either way: by a move with that level or with the other. -/
theorem exec_query_facing (target : Level) (arg : Word) {s : State} (hgen : s.params.environment = .general)
    (r : Bool) : ∃ m t, exec (queryInstr target arg) (s.facing m) = .next t ∧
      Issued (s.facing m) t (queryOp target) arg (.bit r) := by
  obtain ⟨level, hlevel⟩ : ∃ level : Level, (level == target) = r := by
    cases target <;> cases r
    exacts [⟨.high, rfl⟩, ⟨.low, rfl⟩, ⟨.low, rfl⟩, ⟨.high, rfl⟩]
  refine ⟨⟨0, level⟩, _, exec_queryInstr target arg _, ?_⟩
  have hrsp : (s.facing ⟨0, level⟩).responseOf (queryOp target) arg = .bit r := by
    rw [State.responseOf_query, seenLevel_general (s := s.facing ⟨0, level⟩) hgen, State.nextMove_cons rfl, hlevel]
  exact hrsp ▸ issued_issue _ (queryOp target) arg

/-- Settles O11, from what a query for either level does. -/
theorem queryOperations : Obligations.QueryOperations := by
  unfold Obligations.QueryOperations
  refine ⟨rfl, rfl, fun p m a => ⟨?_, ?_⟩, exec_query .high, exec_query .low, fun arg s r hgen =>
    ⟨exec_query_facing .high arg hgen r, exec_query_facing .low arg hgen r⟩⟩
  · simpa [issuers] using issuedBy_eq_some_iff (op := .queryHigh) (by decide) p m a
  · simpa [issuers] using issuedBy_eq_some_iff (op := .queryLow) (by decide) p m a

/-- Settles O13: the response is the clock, and the move's delay takes it to any later timestamp. -/
theorem nowOperation : Obligations.NowOperation := by
  unfold Obligations.NowOperation
  refine ⟨rfl, issuedBy_eq_some_iff (by decide), fun arg s => ?_, fun arg s n hn => ?_⟩
  · exact ⟨s.issue .now arg, rfl, issued_issue s .now arg, s.clock_le_servedClock .now arg, ⟨rfl, rfl⟩,
      coreSame_issue s .now arg⟩
  · have hclock : (s.facing ⟨n - s.clock, .low⟩).servedClock .now arg = n := by
      rw [State.servedClock_now, State.nextMove_cons rfl]
      exact Nat.add_sub_cancel' hn
    refine ⟨⟨n - s.clock, .low⟩, _, rfl, ?_, hclock⟩
    have hrsp : (s.facing ⟨n - s.clock, .low⟩).responseOf .now arg = .time n := congrArg Response.time hclock
    exact hrsp ▸ issued_issue _ .now arg

/-- Settles O14: every capability word is an issue, and no issue touches the core. -/
theorem capabilityOperationsLeaveTheCore : Obligations.CapabilityOperationsLeaveTheCore := by
  unfold Obligations.CapabilityOperationsLeaveTheCore
  intro w i s h
  obtain ⟨op, arg, hexec⟩ := exec_cap h s
  exact ⟨s.issue op arg, hexec, coreSame_issue s op arg⟩

/-- Neither query moves the pin, so both would see the same level (40 R122). -/
theorem seenLevel_queryHigh (s : State) : s.seenLevel .queryHigh = s.seenLevel .queryLow := rfl

/-- Settles O15: of the one level both would see, one of the two answers is true. -/
theorem queriesAreComplementary : Obligations.QueriesAreComplementary := by
  unfold Obligations.QueriesAreComplementary
  intro s a b
  refine ⟨s.issue .queryLow a, s.issue .queryHigh b, s.seenLevel .queryLow == .low, rfl, rfl,
    issued_issue s .queryLow a, ?_⟩
  have hrsp : s.responseOf .queryHigh b = .bit (!(s.seenLevel .queryLow == .low)) := by
    rw [State.responseOf, responseTo, seenLevel_queryHigh]
    cases s.seenLevel .queryLow <;> rfl
  exact hrsp ▸ issued_issue s .queryHigh b

/-! ## The start pulse -/

/-- A turn of the core, with no other turn to come, runs the micro-operation it stands at. -/
theorem step_at {s : State} {m : MicroState} (hu : s.upc = m) (hagenda : s.agenda = []) : step s = exec m.instr s := by
  rw [step_core_nil hagenda, hu]

/-- A wait of the handshake takes its argument, in the reference environment (40 R118). -/
theorem clock_le_controlStep_wait {s : State} (h : s.params.environment = .reference) (arg : Word)
    (onward : MicroState) : s.clock + arg.toNat ≤ (controlStep .wait arg onward s).clock :=
  State.least_le_servedClock h .wait arg

/-- Settles O18: two drives with a wait after each, and every one of them is served in output mode. -/
theorem startPulseOnTheLine : Obligations.StartPulseOnTheLine := by
  unfold Obligations.StartPulseOnTheLine
  intro s hupc hagenda hmode
  refine ⟨_, _, _, _, _, step_at hupc hagenda, step_at (m := .hHold) rfl hagenda, step_at (m := .hHi1) rfl hagenda,
    step_at (m := .hRel) rfl hagenda, step_at (m := .hIn) rfl hagenda, servedLine_low .driveLow hmode rfl,
    servedLine_low .wait hmode rfl, servedLine_high .driveHigh hmode rfl, servedLine_high .wait hmode rfl,
    fun href => ⟨clock_le_controlStep_wait ?_ _ _, clock_le_controlStep_wait ?_ _ _⟩, hmode, rfl, rfl⟩ <;> exact href

/-! ## Where the sampler stops -/

/-- `S_CLS` stops on what `sampleFault` names. -/
theorem execSCls_of_fault {s : State} {f : Fault}
    (h : sampleFault s.params (s.servedClock .now 0#32) s.tRec s.idx = some f) : execSCls s = .fault f := by
  simp only [execSCls, State.issue_clock, State.issue_tRec, State.issue_params, State.issue_idx, h]

/-- Settles O30, from the order in which `sampleFault` looks for a fault. -/
theorem samplerStopsOutsideItsPremises : Obligations.SamplerStopsOutsideItsPremises := by
  unfold Obligations.SamplerStopsOutsideItsPremises
  refine fun s => ⟨fun hback => ?_, fun hforward hparam hidx => ?_⟩
  · exact execSCls_of_fault (by rw [sampleFault, if_pos hback])
  · exact execSCls_of_fault (by
      rw [sampleFault, if_neg (by omega), if_neg (by simp [hparam]), if_neg (by omega)])

end Sys2Proof.Machine

/-! # Proofs: progress (what moving time means, and how it ends every level-wait and readout) -/

namespace Sys2Proof.Machine

/-! ## Moving time is what a bus of `NOW`s sees -/

/-- The bus word of `NOW` is one `NOW`, and its turn is over. -/
theorem step_busNow {s : State} (h : s.turn = .busWord 0x900000000#36) : step s = .next (s.popTurn.issue .now 0#32) :=
  step_of_fetch_word (fetch_busWord h) decode_word_now

theorem timeAfter_popTurn_now (s : State) (n : Nat) :
    timeAfter (s.popTurn.issue .now 0#32) n = timeAfter s (n + 1) := by
  rw [timeAfter_issue, State.imposedTime_now, Nat.add_zero]
  exact timeAfter_of_environmentSame (issuedNothing_popTurn s).2 (n + 1)

/-- The last of the `NOW`s answers what time has come to. -/
theorem run_busNows (n : Nat) : ∀ {s : State}, s.agenda = List.replicate (n + 1) (.busWord 0x900000000#36) →
    ∃ t, run (n + 1) s = .next t ∧ t.trace.head?.map (·.rsp) = some (.time (timeAfter s (n + 1))) := by
  induction n with
  | zero =>
    intro s h
    refine ⟨_, run_one (step_busNow (State.turn_cons h)), ?_⟩
    rw [← timeAfter_popTurn_now]
    rfl
  | succ n ih =>
    intro s h
    have hrest : (s.popTurn.issue .now 0#32).agenda = List.replicate (n + 1) (.busWord 0x900000000#36) := by
      rw [State.issue_agenda, State.popTurn_agenda, h, List.tail_replicate, Nat.add_sub_cancel]
    obtain ⟨t, hrun, hhead⟩ := ih hrest
    refine ⟨t, ?_, ?_⟩
    · rwa [run_succ (step_busNow (State.turn_cons h))]
    · rwa [timeAfter_popTurn_now] at hhead

/-- Time moves exactly where a bus that keeps issuing `NOW` receives responses above every bound (40 R123). -/
theorem timeMoves_iff_busNows (s : State) : TimeMoves s ↔ ∀ bound, ∃ n t r,
    run (n + 1) { s with agenda := List.replicate (n + 1) (.busWord 0x900000000#36) } = .next t ∧
      t.trace.head?.map (·.rsp) = some (.time r) ∧ bound < r := by
  have htime (agenda : List Turn) (n : Nat) : timeAfter { s with agenda := agenda } n = timeAfter s n :=
    timeAfter_of_environmentSame (s := s) (t := { s with agenda := agenda }) ⟨rfl, rfl, rfl, rfl, rfl, rfl, rfl⟩ n
  constructor
  · intro hmoves bound
    obtain ⟨n, hn⟩ := hmoves bound
    obtain ⟨t, hrun, hhead⟩ := run_busNows n (s := { s with agenda := List.replicate (n + 1) (.busWord _) }) rfl
    exact ⟨n, t, _, hrun, hhead, by rw [htime]; exact hn.trans_le (timeAfter_le_succ s n)⟩
  · intro hnows bound
    obtain ⟨n, t, r, hrun, hhead, hr⟩ := hnows bound
    obtain ⟨t', hrun', hhead'⟩ := run_busNows n (s := { s with agenda := List.replicate (n + 1) (.busWord _) }) rfl
    rw [hrun] at hrun'
    injection hrun' with ht
    rw [← ht, hhead, htime] at hhead'
    simp only [Option.some.injEq, Response.time.injEq] at hhead'
    exact ⟨n + 1, hhead' ▸ hr⟩

/-! ## What a run reaches -/

/-- Some number of steps leads from `s` to `t`. -/
def Reaches (s t : State) : Prop := ∃ k, run k s = .next t

theorem Reaches.refl (s : State) : Reaches s s := ⟨0, rfl⟩

theorem Reaches.head {s u t : State} (h : step s = .next u) (hu : Reaches u t) : Reaches s t := by
  obtain ⟨k, hk⟩ := hu
  exact ⟨k + 1, by rwa [run_succ h]⟩

theorem Reaches.trans {s u t : State} (h : Reaches s u) (hu : Reaches u t) : Reaches s t := by
  obtain ⟨j, hj⟩ := h
  obtain ⟨k, hk⟩ := hu
  exact ⟨j + k, by rwa [run_add hj]⟩

/-- What every step keeps holds of every state reached. -/
theorem Reaches.invariant {P : State → Prop} (hstep : ∀ s t, P s → step s = .next t → P t) {s t : State}
    (h : Reaches s t) (hs : P s) : P t := by
  obtain ⟨k, hk⟩ := h
  induction k generalizing s with
  | zero =>
    injection hk with hk
    exact hk ▸ hs
  | succ k ih =>
    obtain ⟨u, hu, hk⟩ := step_of_run_succ hk
    exact ih (hstep s u hs hu) hk

theorem Reaches.params {s t : State} (h : Reaches s t) : t.params = s.params :=
  h.invariant (P := fun u => u.params = s.params) (fun _ _ hu hstep => (keepsHistory_step hstep).1.trans hu) rfl

/-- An operation performed without an answer leaves time moving just as one that is answered. -/
theorem timeMoves_environment {s : State} (op : CapOp) (arg : Word) (hs : TimeMoves s) :
    TimeMoves (s.environment op arg) :=
  timeMoves_of_environmentSame (s := s.issue op arg) ⟨rfl, rfl, rfl, rfl, rfl, rfl, rfl⟩ (timeMoves_issue op arg hs)

/-- Premise (b) holds on over every step. -/
theorem timeMoves_of_step {s t : State} (hs : TimeMoves s) (h : step s = .next t) : TimeMoves t := by
  cases envStep_of_step h with
  | quiet h => exact timeMoves_of_environmentSame h.2 hs
  | issued op arg h => exact timeMoves_of_environmentSame h.2 (timeMoves_issue op arg hs)
  | withdrawn op arg h => exact timeMoves_of_environmentSame h.2 (timeMoves_environment op arg hs)

/-! ## The end of a level-wait -/

/-- What the rounds of a level-wait leave alone: everything but `T_ENTRY`, `UPC`, the line and the clock (41 R131 to
R133). -/
def WaitFrame (s t : State) : Prop := t.tRec = s.tRec ∧ DataSame s t ∧ PinSame s t ∧ SurroundingsSame s t

/-- How a level-wait entered from `s` ends in `t`: in success or in Timeout, with the pin as it was. -/
def WaitEnds (w : WaitInstance) (s t : State) : Prop :=
  (t.upc = w.success ∧ t.tRec = s.tRec ∧ DataSame s t ∨ t.upc = .errTimeout ∧ RegistersCleared t) ∧ PinSame s t ∧
    SurroundingsSame s t

/-- Some run from `s` ends the level-wait. -/
def EndsWait (w : WaitInstance) (s : State) : Prop := ∃ t, Reaches s t ∧ WaitEnds w s t

theorem waitFrame_query (s : State) (target : Level) (m : MicroState) :
    WaitFrame s ((s.issue (queryOp target) 0#32).setUpc m) :=
  ⟨rfl, ⟨rfl, rfl, rfl, rfl, rfl⟩, pinSame_issue_query s target 0#32, rfl, rfl, rfl⟩

/-- What a round leaves alone is as it was before the round. -/
theorem WaitEnds.of_frame {w : WaitInstance} {s u t : State} (hframe : WaitFrame s u) (h : WaitEnds w u t) :
    WaitEnds w s t := by
  obtain ⟨hrec, ⟨hidx, hbits, hfr, hhum, htemp⟩, ⟨hmode, hout⟩, hparams, hagenda, hdata⟩ := hframe
  rwa [WaitEnds, DataSame, PinSame, SurroundingsSame, ← hrec, ← hidx, ← hbits, ← hfr, ← hhum, ← htemp, ← hmode,
    ← hout, ← hparams, ← hagenda, ← hdata]

theorem EndsWait.of_step {w : WaitInstance} {s u : State} (hstep : step s = .next u) (hframe : WaitFrame s u)
    (hu : EndsWait w u) : EndsWait w s := by
  obtain ⟨t, hreach, hends⟩ := hu
  exact ⟨t, hreach.head hstep, hends.of_frame hframe⟩

/-- No turn but the core's is to come, and the wait's deadline will have passed after `n` more moves (41 R133). -/
def DeadlineWithin (n : Nat) (s : State) : Prop :=
  s.agenda = [] ∧ s.tEntry + s.params.tTimeoutUs < timeAfter s n

theorem exists_deadlineWithin {s : State} (hagenda : s.agenda = []) (hmoves : TimeMoves s) :
    ∃ n, DeadlineWithin n s := by
  obtain ⟨n, hn⟩ := hmoves (s.tEntry + s.params.tTimeoutUs)
  exact ⟨n, hagenda, hn⟩

theorem DeadlineWithin.succ {n : Nat} {s : State} (h : DeadlineWithin n s) : DeadlineWithin (n + 1) s :=
  ⟨h.1, h.2.trans_le (timeAfter_le_succ s n)⟩

theorem timeAfter_setUpc (s : State) (m : MicroState) (n : Nat) : timeAfter (s.setUpc m) n = timeAfter s n :=
  timeAfter_of_environmentSame (s := s) (t := s.setUpc m) ⟨rfl, rfl, rfl, rfl, rfl, rfl, rfl⟩ n

/-- Each operation of the wait is one of the moves. -/
theorem DeadlineWithin.issue {n : Nat} {s : State} (h : DeadlineWithin (n + 1) s) (op : CapOp) (arg : Word)
    (m : MicroState) : DeadlineWithin n ((s.issue op arg).setUpc m) := by
  obtain ⟨hagenda, hdeadline⟩ := h
  refine ⟨hagenda, ?_⟩
  calc s.tEntry + s.params.tTimeoutUs
    _ < timeAfter s (n + 1) := hdeadline
    _ ≤ timeAfter (s.issue op arg) n := by rw [timeAfter_issue]; exact Nat.le_add_right _ _
    _ = timeAfter ((s.issue op arg).setUpc m) n := (timeAfter_setUpc (s.issue op arg) m n).symm

/-- A query ends the wait, or leaves it to the deadline check. -/
theorem endsWait_of_query {w : WaitInstance} (hw : w ∈ waitInstances) {n : Nat}
    (hcheck : ∀ c : State, c.upc = w.check → DeadlineWithin n c → EndsWait w c) {s : State} (hu : s.upc = w.query)
    (hs : DeadlineWithin n s) : EndsWait w s := by
  have hstep : step s = .next (queryPin w.target w.success w.check s) := by
    rw [step_at hu hs.1, (exec_waitInstance hw s).2.1]
  rcases queryPin_cases w.target w.success w.check s with ⟨-, hq⟩ | ⟨-, hq⟩ <;> rw [hq] at hstep
  · obtain ⟨hrec, hdata, hpin, hsur⟩ := waitFrame_query s w.target w.success
    exact ⟨_, (Reaches.refl _).head hstep, .inl ⟨rfl, hrec, hdata⟩, hpin, hsur⟩
  · exact .of_step hstep (waitFrame_query s w.target w.check) (hcheck _ rfl (hs.succ.issue _ _ _))

/-- A deadline check ends the wait in Timeout, or the deadline has not passed and the query is next (41 R133). -/
theorem endsWait_or_poll {w : WaitInstance} (hw : w ∈ waitInstances) {s : State} (hu : s.upc = w.check)
    (hagenda : s.agenda = []) : EndsWait w s ∨ (s.servedClock .now 0#32 ≤ s.tEntry + s.params.tTimeoutUs ∧
      step s = .next ((s.issue .now 0#32).setUpc w.query)) := by
  have hstep : step s = .next (checkDeadline w.query s) := by
    rw [step_at hu hagenda, (exec_waitInstance hw s).2.2]
  rcases checkDeadline_cases w.query s with ⟨-, hc⟩ | ⟨hle, hc⟩ <;> rw [hc] at hstep
  · exact .inl ⟨_, (Reaches.refl _).head hstep, .inr ⟨rfl, registersCleared_raiseError _ _⟩, ⟨rfl, rfl⟩, rfl, rfl, rfl⟩
  · exact .inr ⟨hle, hstep⟩

/-- By induction on the moves left to the deadline: each round of the wait makes one at least. -/
theorem endsWait_of_check {w : WaitInstance} (hw : w ∈ waitInstances) (n : Nat) :
    ∀ s : State, s.upc = w.check → DeadlineWithin n s → EndsWait w s := by
  induction n with
  | zero =>
    intro s hu ⟨hagenda, (hpast : s.tEntry + s.params.tTimeoutUs < s.clock)⟩
    rcases endsWait_or_poll hw hu hagenda with hends | ⟨hle, -⟩
    · exact hends
    · have hclock := s.clock_le_servedClock .now 0#32
      omega
  | succ n ih =>
    intro s hu hs
    rcases endsWait_or_poll hw hu hs.1 with hends | ⟨-, hstep⟩
    · exact hends
    · exact .of_step hstep ⟨rfl, ⟨rfl, rfl, rfl, rfl, rfl⟩, ⟨rfl, rfl⟩, rfl, rfl, rfl⟩
        (endsWait_of_query hw ih rfl (hs.issue _ _ _))

theorem endsWait_at_query {w : WaitInstance} (hw : w ∈ waitInstances) {s : State} (hu : s.upc = w.query)
    (hagenda : s.agenda = []) (hmoves : TimeMoves s) : EndsWait w s := by
  obtain ⟨n, hn⟩ := exists_deadlineWithin hagenda hmoves
  exact endsWait_of_query hw (endsWait_of_check hw n) hu hn

/-- Wherever in it the core stands, a level-wait ends where time moves (41 R134). -/
theorem endsWait {w : WaitInstance} (hw : w ∈ waitInstances) {s : State} (hu : s.upc ∈ [w.entry, w.query, w.check])
    (hagenda : s.agenda = []) (hmoves : TimeMoves s) : EndsWait w s := by
  simp only [List.mem_cons, List.not_mem_nil, or_false] at hu
  rcases hu with hu | hu | hu
  · have hstep : step s = .next (takeEntry w.query s) := by rw [step_at hu hagenda, (exec_waitInstance hw s).1]
    exact .of_step hstep ⟨rfl, ⟨rfl, rfl, rfl, rfl, rfl⟩, ⟨rfl, rfl⟩, rfl, rfl, rfl⟩
      (endsWait_at_query hw rfl hagenda (timeMoves_of_step hmoves hstep))
  · exact endsWait_at_query hw hu hagenda hmoves
  · obtain ⟨n, hn⟩ := exists_deadlineWithin hagenda hmoves
    exact endsWait_of_check hw n s hu hn

/-! ## The end of a readout -/

/-- Between two micro-operations of a readout: the core has every turn, its counter and clock are in order, and time
moves. -/
def Ready (s : State) : Prop := s.agenda = [] ∧ CountOk s ∧ ClockOk s ∧ TimeMoves s

theorem ready_of_step (s t : State) (hs : Ready s) (h : step s = .next t) : Ready t := by
  obtain ⟨hagenda, hcount, hclock, hmoves⟩ := hs
  exact ⟨by rw [agenda_of_step h, hagenda]; rfl, countInvariantKept s t hcount h, clockInvariantKept s t hclock h,
    timeMoves_of_step hmoves h⟩

/-- The terminal micro-states (00 R12). -/
def Terminal (s : State) : Prop := s.upc ∈ [.done, .errTimeout, .errChecksum]

/-- The one way a readout can stop short of a terminal micro-state (43 R165). -/
def StopsLong (s : State) : Prop :=
  s.params.elapsedViolation = .fault ∧ s.upc = .sCls ∧ step s = .fault .elapsedViolation

/-- What is left of a readout: the bits to sample, and the micro-states left in their order. -/
def readoutLeft (s : State) : Nat := 32 * (40 - s.idx.toNat) + (32 - s.upc.code.toNat)

/-- From `s` to `t` the readout has come nearer to its end, or has ended. -/
def Advances (s t : State) : Prop := Terminal t ∨ (t.busy = true ∧ readoutLeft t < readoutLeft s)

/-- With the counter as it is, a later micro-state is nearer to the end. -/
theorem advances_of_code {s t : State} (hidx : t.idx = s.idx) (hlt : s.upc.code.toNat < t.upc.code.toNat)
    (hle : t.upc.code.toNat ≤ 27) : Advances s t := by
  refine .inr ⟨t.busy_iff.mpr ⟨by omega, hle⟩, ?_⟩
  rw [readoutLeft, readoutLeft, hidx]
  omega

/-- With one more bit stored, the readout is nearer to its end (43 R164). -/
theorem advances_of_sample {s t : State} (hu : s.upc = .sCls) (hlt : s.idx.toNat < 40)
    (hidx : t.idx.toNat = s.idx.toNat + 1) (hto : t.upc = afterClassify s.idx) : Advances s t := by
  have hcode : 17 ≤ t.upc.code.toNat ∧ t.upc.code.toNat ≤ 25 := by
    rcases afterClassify_cases s.idx with ⟨-, h⟩ | ⟨-, h⟩ <;> rw [hto, h] <;> decide
  refine .inr ⟨t.busy_iff.mpr (by omega), ?_⟩
  have hcls : s.upc.code.toNat = 24 := by rw [hu]; rfl
  rw [readoutLeft, readoutLeft, hidx, hcls]
  omega

/-- The control steps go through the codes 1 to 7 in order (42 section 2). -/
theorem code_of_controlRow {p : Params} {m onward : MicroState} {op : CapOp} {arg : Word}
    (h : (m, op, arg, onward) ∈
      [(.hOut, .setModeOutput, 0#32, .hHi0), (.hHi0, .driveHigh, 0#32, .hLo), (.hLo, .driveLow, 0#32, .hHold),
        (.hHold, .wait, p.tStartLowUs, .hHi1), (.hHi1, .driveHigh, 0#32, .hRel), (.hRel, .wait, p.tReleaseUs, .hIn),
        (.hIn, .setModeInput, 0#32, .hW1T)]) : onward.code.toNat = m.code.toNat + 1 ∧ onward.code.toNat ≤ 8 := by
  simp only [List.mem_cons, Prod.mk.injEq, List.not_mem_nil, or_false] at h
  rcases h with ⟨rfl, -, -, rfl⟩ | ⟨rfl, -, -, rfl⟩ | ⟨rfl, -, -, rfl⟩ | ⟨rfl, -, -, rfl⟩ | ⟨rfl, -, -, rfl⟩ |
    ⟨rfl, -, -, rfl⟩ | ⟨rfl, -, -, rfl⟩ <;> decide

/-- Within a level-wait the readout comes nearer to its end at the wait's own end. -/
theorem advances_of_wait {w : WaitInstance} (hw : w ∈ waitInstances) {s : State}
    (hu : s.upc ∈ [w.entry, w.query, w.check]) (hs : Ready s) : ∃ t, Reaches s t ∧ Advances s t := by
  obtain ⟨hagenda, -, -, hmoves⟩ := hs
  obtain ⟨-, hq, hc, hsuccess, h24⟩ := codes_of_mem_waitInstances w hw
  obtain ⟨t, hreach, ⟨ht, -, hidx, -⟩ | ⟨ht, -⟩, -⟩ := endsWait hw hu hagenda hmoves
  · have hlt : s.upc.code.toNat < w.success.code.toNat := by
      simp only [List.mem_cons, List.not_mem_nil, or_false] at hu
      rcases hu with hu | hu | hu <;> rw [hu] <;> omega
    exact ⟨t, hreach, advances_of_code hidx (by rwa [ht]) (by rw [ht]; omega)⟩
  · exact ⟨t, hreach, .inl (by rw [Terminal, ht]; decide)⟩

/-- Whatever micro-operation is next, the readout comes nearer to its end. -/
theorem advances_of_step {s t : State} (hs : Ready s) (hbusy : s.busy = true) (h : step s = .next t) :
    ∃ u, Reaches s u ∧ Advances s u := by
  have hreach : Reaches s t := (Reaches.refl t).head h
  rw [step_core_nil hs.1] at h
  rcases exec_micro_cases h with ⟨hrest, -⟩ | ⟨op, arg, onward, hrow, rfl⟩ | ⟨w, hw, hwait⟩ | ⟨hu, rfl⟩ |
    ⟨hu, hfault, rfl⟩ | ⟨hu, rfl⟩ | ⟨hu, -, rfl⟩ | ⟨hu, -, rfl⟩ | ⟨hu, rfl⟩
  · rw [s.busy_eq_false_iff.mpr hrest] at hbusy
    cases hbusy
  · obtain ⟨hnext, hle⟩ := code_of_controlRow hrow
    exact ⟨_, hreach, advances_of_code rfl (by rw [controlStep, State.setUpc_upc]; omega)
      (by rw [controlStep, State.setUpc_upc]; omega)⟩
  · refine advances_of_wait hw ?_ hs
    rcases hwait with ⟨hu, -⟩ | ⟨hu, -⟩ | ⟨hu, -⟩ <;> rw [hu] <;> simp
  · exact ⟨_, hreach, advances_of_code rfl (by rw [hu, State.setUpc_upc]; decide) (by rw [State.setUpc_upc]; decide)⟩
  · obtain ⟨-, hidx, -⟩ := (sampleFault_eq_none_iff _ _ _ _).mp hfault
    have hstored := storeBit_idx_toNat (s := s.issue .now 0#32)
      (classify (s.servedClock .now 0#32 - s.tRec) s.params.tThresholdUs) hidx
    exact ⟨_, hreach, advances_of_sample hu hidx hstored rfl⟩
  · exact ⟨_, hreach, advances_of_code rfl (by rw [hu, State.setUpc_upc]; decide) (by rw [State.setUpc_upc]; decide)⟩
  · exact ⟨_, hreach, advances_of_code rfl (by rw [hu, State.setUpc_upc]; decide) (by rw [State.setUpc_upc]; decide)⟩
  · exact ⟨_, hreach, .inl (by rw [Terminal, State.raiseError_upc]; decide)⟩
  · exact ⟨_, hreach, .inl (by rw [Terminal, State.setUpc_upc]; decide)⟩

/-- In the middle of a readout the core stops on a long elapsed time, or comes nearer to the end. -/
theorem stopsLong_or_advances {s : State} (hs : Ready s) (hbusy : s.busy = true) :
    StopsLong s ∨ ∃ t, Reaches s t ∧ Advances s t := by
  have ⟨hagenda, hcount, hclock, _⟩ := hs
  have hcore : CoreOnly s := fun turn hturn => absurd (hagenda ▸ hturn) List.not_mem_nil
  rcases step_next_or_elapsedViolation hcount hclock hcore with ⟨t, ht⟩ | ⟨hparam, -, hupc, hfault, -⟩
  · exact .inr (advances_of_step hs hbusy ht)
  · exact .inl ⟨hparam, hupc, hfault⟩

/-- By induction on what is left of the readout (46 R207). -/
theorem readout_ends {s : State} (hs : Ready s) (hbusy : s.busy = true) :
    ∃ t, Reaches s t ∧ (Terminal t ∨ StopsLong t) := by
  induction hleft : readoutLeft s using Nat.strong_induction_on generalizing s with
  | h left ih =>
    rcases stopsLong_or_advances hs hbusy with hstop | ⟨u, hreach, hterminal | ⟨hubusy, hlt⟩⟩
    · exact ⟨s, .refl s, .inr hstop⟩
    · exact ⟨u, hreach, .inl hterminal⟩
    · obtain ⟨t, hut, ht⟩ := ih (readoutLeft u) (hleft ▸ hlt) (hreach.invariant ready_of_step hs) hubusy rfl
      exact ⟨t, hreach.trans hut, ht⟩

/-- Settles O49: each wait is over when its deadline has passed, and each end of a wait or of a step between two waits
brings the readout nearer to its own. -/
theorem progressEndsEveryWaitAndReadout : Obligations.ProgressEndsEveryWaitAndReadout := by
  unfold Obligations.ProgressEndsEveryWaitAndReadout
  refine ⟨timeMoves_iff_busNows, fun w hw s hu hagenda ⟨_, hmoves⟩ => ?_,
    fun s hbusy hagenda hcount hclock ⟨_, hmoves⟩ => ?_⟩
  · obtain ⟨t, hreach, hends, hpin, hsur⟩ := endsWait hw hu hagenda hmoves
    have hmoves : TimeMoves t := hreach.invariant (fun _ _ => timeMoves_of_step) hmoves
    obtain ⟨k, hk⟩ := hreach
    exact ⟨k, t, hk, hends, hpin, hsur, operationsComplete, hmoves⟩
  · obtain ⟨t, hreach, hend⟩ := readout_ends ⟨hagenda, hcount, hclock, hmoves⟩ hbusy
    have hparams := hreach.params
    obtain ⟨k, hk⟩ := hreach
    refine ⟨k, t, hk, hend.imp id ?_⟩
    rintro ⟨hparam, hupc, hfault⟩
    exact ⟨by rwa [← hparams], hupc, hfault⟩

end Sys2Proof.Machine

/-! # Proofs: the level-wait (its three micro-operations, the rounds of its polling, how it succeeds and times out) -/

namespace Sys2Proof.Machine

/-! ## The three micro-operations -/

/-- Settles O19: `x_T` is one `NOW`, whose response is the clock it leaves. -/
theorem entryTimestampIsTaken : Obligations.EntryTimestampIsTaken := by
  unfold Obligations.EntryTimestampIsTaken
  refine ⟨by decide, fun w hw => ?_⟩
  obtain ⟨-, hquery, -⟩ := codes_of_mem_waitInstances w hw
  exact ⟨hquery, fun s => ⟨takeEntry w.query s, (exec_waitInstance hw s).1, issued_issue s .now 0#32, rfl,
    s.clock_le_servedClock .now 0#32, rfl, rfl, rfl, rfl, rfl, rfl, ⟨rfl, rfl⟩, rfl, rfl, rfl⟩⟩

/-- The response to `x_Q` decides where it goes, and the response is whether the level seen is the target. -/
theorem queryPin_eq (target : Level) (success check : MicroState) (s : State) :
    queryPin target success check s = (s.issue (queryOp target) 0#32).setUpc
      (if s.seenLevel (queryOp target) == target then success else check) := by
  rcases queryPin_cases target success check s with ⟨hseen, h⟩ | ⟨hseen, h⟩ <;> simp [h, hseen]

/-- Settles O20: `x_Q` is one query, and neither its issue nor where it goes asks for the clock. -/
theorem queryDecidesTheWait : Obligations.QueryDecidesTheWait := by
  unfold Obligations.QueryDecidesTheWait
  refine ⟨by decide, fun w hw => ?_⟩
  obtain ⟨-, -, hcheck, hsuccess, -⟩ := codes_of_mem_waitInstances w hw
  refine ⟨by omega, hcheck, fun s => ⟨queryPin w.target w.success w.check s,
    s.seenLevel (queryOp w.target) == w.target, (exec_waitInstance hw s).2.1, ?_⟩⟩
  rw [queryPin_eq]
  refine ⟨?_, beq_iff_eq, rfl, ⟨rfl, rfl, rfl, rfl, rfl, rfl, rfl⟩, pinSame_issue_query s w.target 0#32, rfl, rfl, rfl⟩
  rw [← State.responseOf_query s w.target 0#32]
  exact issued_issue s (queryOp w.target) 0#32

/-- Settles O21: `x_C` is one `NOW`, whose response passes the deadline or does not. -/
theorem deadlineIsChecked : Obligations.DeadlineIsChecked := by
  unfold Obligations.DeadlineIsChecked
  refine ⟨by decide, fun w hw => ?_⟩
  obtain ⟨-, -, hcheck, -⟩ := codes_of_mem_waitInstances w hw
  refine ⟨hcheck, fun s => ⟨_, s.servedClock .now 0#32, (exec_waitInstance hw s).2.2,
    issued_of_issuedNothing (issuedNothing_checkDeadline w.query s), s.clock_le_servedClock .now 0#32, ?_⟩⟩
  rcases checkDeadline_cases w.query s with ⟨hpast, h⟩ | ⟨hwithin, h⟩ <;> rw [h]
  · exact ⟨rfl, fun hle => absurd hpast hle.not_gt, fun _ => ⟨rfl, registersCleared_raiseError _ _⟩, ⟨rfl, rfl⟩,
      rfl, rfl, rfl⟩
  · exact ⟨rfl, fun _ => ⟨rfl, rfl, rfl, rfl, rfl, rfl, rfl, rfl⟩, fun hlt => absurd hlt hwithin.not_gt, ⟨rfl, rfl⟩,
      rfl, rfl, rfl⟩

/-! ## Runs against a script -/

/-- A run from `s` to `t` in which each step issues one operation, the environment's moves are `ms`, and time passes by
their delays only. -/
structure Served (ms : List EnvMove) (s t : State) : Prop where
  run : run ms.length s = .next t
  script : s.script = ms ++ t.script
  clock : t.clock = s.clock + (ms.map (·.delay)).sum
  trace : t.trace.length = s.trace.length + ms.length

/-- What the script holds after the moves made is what is left of it. -/
theorem Served.script_eq {ms rest : List EnvMove} {s t : State} (h : Served ms s t) (hscript : s.script = ms ++ rest) :
    t.script = rest :=
  List.append_cancel_left (h.script.symm.trans hscript)

theorem Served.nil (s : State) : Served [] s s := ⟨rfl, rfl, rfl, rfl⟩

theorem Served.append {ms ns : List EnvMove} {s u t : State} (h : Served ms s u) (hu : Served ns u t) :
    Served (ms ++ ns) s t where
  run := by rw [List.length_append, run_add h.run, hu.run]
  script := by rw [h.script, hu.script, List.append_assoc]
  clock := by rw [hu.clock, h.clock, List.map_append, List.sum_append, Nat.add_assoc]
  trace := by rw [hu.trace, h.trace, List.length_append, Nat.add_assoc]

/-- A step that issues an operation which takes no time by itself makes the next move of the script. -/
theorem served_of_step {m : EnvMove} {rest : List EnvMove} {s t : State} {op : CapOp} {arg : Word}
    (hscript : s.script = m :: rest) (hstep : step s = .next t) (hissued : IssuedNothing (s.issue op arg) t)
    (himposed : s.imposedTime op arg = 0) : Served [m] s t := by
  obtain ⟨htrace, -, -, -, hclock, hleft, -⟩ := hissued
  refine ⟨run_one hstep, ?_, ?_, ?_⟩
  · rw [hleft, State.issue_script, hscript]
    rfl
  · rw [hclock, State.issue_clock, State.servedClock, himposed, State.nextMove_cons hscript]
    rfl
  · rw [htrace]
    rfl

/-! ## Each micro-operation of the wait against a script -/

/-- The core has every turn, and its queries are answered by the environment's level. -/
def Listening (s : State) : Prop := s.agenda = [] ∧ Hears s

/-- A core goes on listening as long as the pin and its surroundings stay. -/
theorem Listening.of_same {s t : State} (hpin : PinSame s t) (hsur : SurroundingsSame s t) (h : Listening s) :
    Listening t := by
  obtain ⟨hmode, -⟩ := hpin
  obtain ⟨hparams, hagenda, -⟩ := hsur
  rwa [Listening, Hears, hparams, hagenda, hmode]

theorem WaitFrame.refl (s : State) : WaitFrame s s := ⟨rfl, ⟨rfl, rfl, rfl, rfl, rfl⟩, ⟨rfl, rfl⟩, rfl, rfl, rfl⟩

theorem WaitFrame.trans {s u t : State} (h : WaitFrame s u) (hu : WaitFrame u t) : WaitFrame s t := by
  obtain ⟨hrec, ⟨hidx, hbits, hframe, hhum, htemp⟩, ⟨hmode, hout⟩, hparams, hagenda, hdata⟩ := h
  rwa [WaitFrame, DataSame, PinSame, SurroundingsSame, ← hrec, ← hidx, ← hbits, ← hframe, ← hhum, ← htemp, ← hmode,
    ← hout, ← hparams, ← hagenda, ← hdata]

theorem Listening.of_frame {s t : State} (h : WaitFrame s t) (hs : Listening s) : Listening t := by
  obtain ⟨-, -, hpin, hsur⟩ := h
  exact hs.of_same hpin hsur

/-- A query sees the level of the move it is served by. -/
theorem Listening.seenLevel_query {m : EnvMove} {rest : List EnvMove} {s : State} (h : Listening s)
    (hscript : s.script = m :: rest) (target : Level) : s.seenLevel (queryOp target) = m.level := by
  obtain ⟨(hmode : s.servedMode (queryOp target) = s.pinMode), -⟩ := pinSame_issue_query s target 0#32
  rw [State.seenLevel_free (by rw [hmode]; exact h.2), State.nextMove_cons hscript]

section
variable {w : WaitInstance} (hw : w ∈ waitInstances) {s : State} {m : EnvMove} {rest : List EnvMove}
include hw

/-- `x_T` takes the time at which its `NOW` is served (41 R131). -/
theorem served_entry (hu : s.upc = w.entry) (hagenda : s.agenda = []) (hscript : s.script = m :: rest) :
    ∃ t, Served [m] s t ∧ WaitFrame s t ∧ t.upc = w.query ∧ t.tEntry = s.clock + m.delay := by
  have hstep : step s = .next (takeEntry w.query s) := by rw [step_at hu hagenda, (exec_waitInstance hw s).1]
  refine ⟨_, served_of_step hscript hstep (op := .now) (arg := 0#32) ⟨rfl, rfl, rfl, rfl, rfl, rfl, rfl, rfl⟩
    (s.imposedTime_now 0#32), ⟨rfl, ⟨rfl, rfl, rfl, rfl, rfl⟩, ⟨rfl, rfl⟩, rfl, rfl, rfl⟩, rfl, ?_⟩
  exact (s.servedClock_now 0#32).trans (by rw [State.nextMove_cons hscript])

/-- `x_Q` goes where the level of its move says (41 R132). -/
theorem served_query (hu : s.upc = w.query) (hs : Listening s) (hscript : s.script = m :: rest) :
    ∃ t, Served [m] s t ∧ WaitFrame s t ∧ t.upc = (if m.level = w.target then w.success else w.check) ∧
      t.tEntry = s.tEntry := by
  have hstep : step s = .next ((s.issue (queryOp w.target) 0#32).setUpc
      (if m.level = w.target then w.success else w.check)) := by
    rw [step_at hu hs.1, (exec_waitInstance hw s).2.1, queryPin_eq, hs.seenLevel_query hscript]
    simp only [beq_iff_eq]
  exact ⟨_, served_of_step hscript hstep ⟨rfl, rfl, rfl, rfl, rfl, rfl, rfl, rfl⟩
    (s.imposedTime_query w.target 0#32), waitFrame_query s w.target _, rfl, rfl⟩

/-- `x_C` is served by one move, with either outcome (41 R133). -/
theorem served_check (hu : s.upc = w.check) (hagenda : s.agenda = []) (hscript : s.script = m :: rest) :
    Served [m] s (checkDeadline w.query s) := by
  refine served_of_step hscript ?_ (issuedNothing_checkDeadline w.query s) (s.imposedTime_now 0#32)
  rw [step_at hu hagenda, (exec_waitInstance hw s).2.2]

/-! ## One round of polling -/

variable {r : EnvMove × EnvMove}

/-- A query that does not see the level leaves the wait to the deadline check, which reads the clock after both moves of
the round. -/
theorem served_miss (hu : s.upc = w.query) (hs : Listening s) (hscript : s.script = r.1 :: r.2 :: rest)
    (hmiss : r.1.level ≠ w.target) :
    ∃ c, WaitFrame s c ∧ c.tEntry = s.tEntry ∧ c.servedClock .now 0#32 = s.clock + (r.1.delay + r.2.delay) ∧
      Served [r.1, r.2] s (checkDeadline w.query c) := by
  obtain ⟨c, hserved, hframe, hupc, hentry⟩ := served_query hw hu hs hscript
  rw [if_neg hmiss] at hupc
  have hleft : c.script = r.2 :: rest := hserved.script_eq hscript
  refine ⟨c, hframe, hentry, ?_, hserved.append (served_check hw hupc (hs.of_frame hframe).1 hleft)⟩
  rw [State.servedClock_now, State.nextMove_cons hleft, hserved.clock, List.map_singleton, List.sum_singleton,
    Nat.add_assoc]

/-- A round that ends at the deadline or before it goes back to the query. -/
theorem served_round (hu : s.upc = w.query) (hs : Listening s) (hscript : s.script = r.1 :: r.2 :: rest)
    (hmiss : r.1.level ≠ w.target) (hwithin : s.clock + (r.1.delay + r.2.delay) ≤ s.tEntry + s.params.tTimeoutUs) :
    ∃ t, Served [r.1, r.2] s t ∧ WaitFrame s t ∧ t.upc = w.query ∧ t.tEntry = s.tEntry := by
  obtain ⟨c, hframe, hentry, hclock, hserved⟩ := served_miss hw hu hs hscript hmiss
  have ⟨_, _, _, hparams, _⟩ := hframe
  rcases checkDeadline_cases w.query c with ⟨hpast, -⟩ | ⟨-, h⟩
  · rw [hentry, hparams, hclock] at hpast
    omega
  · rw [h] at hserved
    exact ⟨_, hserved, hframe.trans ⟨rfl, ⟨rfl, rfl, rfl, rfl, rfl⟩, ⟨rfl, rfl⟩, rfl, rfl, rfl⟩, rfl, hentry⟩

/-- A round that ends past the deadline ends the wait in Timeout. -/
theorem served_timeout (hu : s.upc = w.query) (hs : Listening s) (hscript : s.script = r.1 :: r.2 :: rest)
    (hmiss : r.1.level ≠ w.target) (hpast : s.tEntry + s.params.tTimeoutUs < s.clock + (r.1.delay + r.2.delay)) :
    ∃ t, Served [r.1, r.2] s t ∧ t.upc = .errTimeout ∧ RegistersCleared t ∧ PinSame s t ∧ SurroundingsSame s t := by
  obtain ⟨c, ⟨-, -, hpin, hsur⟩, hentry, hclock, hserved⟩ := served_miss hw hu hs hscript hmiss
  rcases checkDeadline_cases w.query c with ⟨-, h⟩ | ⟨hwithin, -⟩
  · rw [h] at hserved
    exact ⟨_, hserved, rfl, registersCleared_raiseError _ _, hpin, hsur⟩
  · rw [hentry, hsur.1, hclock] at hwithin
    omega

end

/-! ## Any number of rounds -/

@[simp] theorem length_missMoves (misses : List (EnvMove × EnvMove)) :
    (missMoves misses).length = 2 * misses.length := by
  simp [missMoves, List.length_flatMap, Nat.mul_comm]

@[simp] theorem missMoves_cons (r : EnvMove × EnvMove) (misses : List (EnvMove × EnvMove)) :
    missMoves (r :: misses) = [r.1, r.2] ++ missMoves misses := rfl

@[simp] theorem missMoves_append (xs ys : List (EnvMove × EnvMove)) :
    missMoves (xs ++ ys) = missMoves xs ++ missMoves ys :=
  List.flatMap_append

@[simp] theorem missTime_cons (r : EnvMove × EnvMove) (misses : List (EnvMove × EnvMove)) :
    missTime (r :: misses) = r.1.delay + r.2.delay + missTime misses :=
  List.sum_cons

@[simp] theorem missTime_append (xs ys : List (EnvMove × EnvMove)) :
    missTime (xs ++ ys) = missTime xs + missTime ys := by
  simp [missTime]

/-- The missed rounds take what their moves take. -/
@[simp] theorem sum_delay_missMoves (misses : List (EnvMove × EnvMove)) :
    ((missMoves misses).map (·.delay)).sum = missTime misses := by
  induction misses with
  | nil => rfl
  | cons r misses ih => simp [ih, Nat.add_assoc]

/-- Rounds that do not see the level, the last of which ends at the deadline or before it, come back to the query. -/
theorem served_rounds {w : WaitInstance} (hw : w ∈ waitInstances) {rest : List EnvMove}
    (misses : List (EnvMove × EnvMove)) (hmisses : ∀ r ∈ misses, r.1.level ≠ w.target) :
    ∀ {s : State}, s.upc = w.query → Listening s → s.script = missMoves misses ++ rest →
      s.clock + missTime misses ≤ s.tEntry + s.params.tTimeoutUs →
      ∃ t, Served (missMoves misses) s t ∧ WaitFrame s t ∧ t.upc = w.query ∧ t.tEntry = s.tEntry := by
  induction misses with
  | nil => exact fun hu _ _ _ => ⟨_, .nil _, .refl _, hu, rfl⟩
  | cons r misses ih =>
    intro s hu hs hscript hwithin
    rw [List.forall_mem_cons] at hmisses
    rw [missTime_cons] at hwithin
    obtain ⟨c, hserved, hframe, hupc, hentry⟩ := served_round hw hu hs hscript hmisses.1 (by omega)
    have ⟨_, _, _, hparams, _⟩ := hframe
    have hclock : c.clock = s.clock + (r.1.delay + r.2.delay) := hserved.clock
    obtain ⟨t, hserved', hframe', hupc', hentry'⟩ :=
      ih hmisses.2 hupc (hs.of_frame hframe) (hserved.script_eq hscript) (by rw [hclock, hentry, hparams]; omega)
    exact ⟨t, hserved.append hserved', hframe.trans hframe', hupc', hentry'.trans hentry⟩

/-- From its entry, after rounds that do not see the level and end at the deadline or before it, a level-wait is at its
query. -/
theorem served_entry_rounds {w : WaitInstance} (hw : w ∈ waitInstances) {s : State} {entry : EnvMove}
    {misses : List (EnvMove × EnvMove)} {rest : List EnvMove} (hu : s.upc = w.entry) (hs : Listening s)
    (hscript : s.script = entry :: (missMoves misses ++ rest)) (hmisses : ∀ r ∈ misses, r.1.level ≠ w.target)
    (hwithin : missTime misses ≤ s.params.tTimeoutUs) :
    ∃ t, Served (entry :: missMoves misses) s t ∧ WaitFrame s t ∧ t.upc = w.query ∧
      t.tEntry = s.clock + entry.delay := by
  obtain ⟨q, hserved, hframe, hupc, hentry⟩ := served_entry hw hu hs.1 hscript
  have ⟨_, _, _, hparams, _⟩ := hframe
  have hclock : q.clock = s.clock + entry.delay := hserved.clock
  obtain ⟨t, hserved', hframe', hupc', hentry'⟩ :=
    served_rounds hw misses hmisses hupc (hs.of_frame hframe) (hserved.script_eq hscript)
      (by rw [hclock, hentry, hparams]; omega)
  exact ⟨t, hserved.append hserved', hframe.trans hframe', hupc', hentry'.trans hentry⟩

/-! ## Success and Timeout -/

@[simp] theorem WaitStim.length_moves (x : WaitStim) : x.moves.length = 2 * x.queries := by
  simp only [WaitStim.moves, WaitStim.queries, List.length_cons, List.length_append, length_missMoves, List.length_nil]
  omega

@[simp] theorem WaitStim.sum_delay_moves (x : WaitStim) : (x.moves.map (·.delay)).sum = x.span := by
  simp [WaitStim.moves, WaitStim.span, Nat.add_assoc]

/-- A level-wait against a stimulus that succeeds. -/
theorem served_waitStim {w : WaitInstance} (hw : w ∈ waitInstances) {s : State} {x : WaitStim} {rest : List EnvMove}
    (hu : s.upc = w.entry) (hs : Listening s) (hscript : s.script = x.moves ++ rest)
    (hx : x.Succeeds w.target s.params.tTimeoutUs) :
    ∃ t, Served x.moves s t ∧ WaitFrame s t ∧ t.upc = w.success ∧ t.tEntry = s.clock + x.entry.delay := by
  obtain ⟨hmisses, hwithin, hhit⟩ := hx
  have hscript' : s.script = x.entry :: (missMoves x.misses ++ x.hit :: rest) := by simp [hscript, WaitStim.moves]
  obtain ⟨q, hserved, hframe, hupc, hentry⟩ := served_entry_rounds hw hu hs hscript' hmisses hwithin
  obtain ⟨t, hserved', hframe', hupc', hentry'⟩ :=
    served_query hw hupc (hs.of_frame hframe) (hserved.script_eq hscript')
  rw [if_pos hhit] at hupc'
  exact ⟨t, hserved.append hserved', hframe.trans hframe', hupc', hentry'.trans hentry⟩

/-- Settles O22: entry, the rounds that do not see the level, and the query that does. -/
theorem levelWaitSucceedsAtItsQuery : Obligations.LevelWaitSucceedsAtItsQuery := by
  unfold Obligations.LevelWaitSucceedsAtItsQuery
  intro w hw s x rest hu hagenda hhears hscript hx
  obtain ⟨t, hserved, ⟨hrec, ⟨hidx, hbits, hframe, hhum, htemp⟩, hpin, hsur⟩, hupc, hentry⟩ :=
    served_waitStim hw hu ⟨hagenda, hhears⟩ hscript hx
  have hleft : t.script = rest := hserved.script_eq hscript
  obtain ⟨hrun, -, hclock, htrace⟩ := hserved
  rw [WaitStim.length_moves] at hrun htrace
  rw [WaitStim.sum_delay_moves] at hclock
  exact ⟨t, hrun, hupc, hentry, hclock, hleft, htrace, hrec, hidx, hbits, hframe, hhum, htemp, hpin, hsur⟩

/-- Settles O23: entry, the rounds that end at the deadline or before it, and the one that ends past it. -/
theorem levelWaitTimesOut : Obligations.LevelWaitTimesOut := by
  unfold Obligations.LevelWaitTimesOut
  intro w hw s entry before last rest hu hagenda hhears hscript hmisses hwithin hpast
  rw [List.forall_mem_append, List.forall_mem_singleton] at hmisses
  have hscript' : s.script = entry :: (missMoves before ++ ([last.1, last.2] ++ rest)) := by
    rw [hscript, missMoves_append, List.append_assoc]
    rfl
  have hlast : missTime [last] = last.1.delay + last.2.delay := rfl
  rw [missTime_append, hlast] at hpast
  obtain ⟨q, hserved, hframe, hupc, hentry⟩ :=
    served_entry_rounds hw hu ⟨hagenda, hhears⟩ hscript' hmisses.1 hwithin
  have hclock : q.clock = s.clock + (entry.delay + missTime before) := by simpa using hserved.clock
  have ⟨_, _, ⟨hmode, hout⟩, hparams, hagenda', hdata⟩ := hframe
  obtain ⟨t, hserved', hupc', hclear, hpin, hsur⟩ :=
    served_timeout hw hupc (Listening.of_frame hframe ⟨hagenda, hhears⟩) (hserved.script_eq hscript') hmisses.2
      (by rw [hclock, hentry, hparams]; omega)
  obtain ⟨hrun, -, hclock', htrace⟩ := hserved.append hserved'
  have hlength : (entry :: missMoves before ++ [last.1, last.2]).length = 1 + 2 * (before.length + 1) := by
    simp only [List.length_cons, List.length_append, length_missMoves, List.length_nil]
    omega
  have hsum : ((entry :: missMoves before ++ [last.1, last.2]).map (·.delay)).sum =
      entry.delay + missTime before + (last.1.delay + last.2.delay) := by
    simp [Nat.add_assoc]
  rw [hlength] at hrun htrace
  rw [hsum] at hclock'
  rw [PinSame, hmode, hout] at hpin
  rw [SurroundingsSame, hparams, hagenda', hdata] at hsur
  exact ⟨t, hrun, hupc', hclear, htrace, by omega, by omega, hpin, hsur⟩

end Sys2Proof.Machine

/-! # Proofs: the handshake (its control steps, and the timestamps at rest and before the sampler) -/

namespace Sys2Proof.Machine

/-! ## The timestamps at rest -/

theorem restOk_of_registersCleared {t : State} (h : RegistersCleared t) : RestOk t := by
  obtain ⟨hentry, hrec, -⟩ := h
  exact ⟨fun _ => ⟨hentry, hrec⟩, fun _ => hrec⟩

/-- From `H_OUT` to `DONE` the invariant asks only for `T_REC`, and only through the handshake. -/
theorem restOk_of_code {t : State} (h1 : 1 ≤ t.upc.code.toNat) (h28 : t.upc.code.toNat ≤ 28)
    (hrec : t.upc.code.toNat ≤ 16 → t.tRec = 0) : RestOk t := by
  refine ⟨?_, hrec⟩
  rintro (hu | hu | hu) <;> rw [hu] at h1 h28
  · exact absurd h1 (by decide)
  · exact absurd h28 (by decide)
  · exact absurd h28 (by decide)

/-- Past the handshake the invariant asks for nothing until an error. -/
theorem restOk_of_pastHandshake {t : State} (h17 : 17 ≤ t.upc.code.toNat) (h28 : t.upc.code.toNat ≤ 28) : RestOk t :=
  restOk_of_code (by omega) h28 (by omega)

/-- A step into `IDLE`, `H_OUT` or an error clears the timestamps; within the handshake nothing writes `T_REC`, since only
`S_REC` does and no move onward leads from the sampler back. -/
theorem CoreStep.restOk {s t : State} (h : CoreStep s t) (hs : RestOk s) : RestOk t := by
  have ⟨_, hzero⟩ := hs
  cases h with
  | stay hupc hregs =>
    obtain ⟨hentry, hrec, -⟩ := hregs
    simpa only [RestOk, hupc, hentry, hrec] using hs
  | clear _ _ hregs => exact restOk_of_registersCleared hregs
  | onward _ hupc _ hrec _ =>
    obtain ⟨-, -, h1, h24, hkeep⟩ := hupc
    refine restOk_of_code h1 (by omega) fun h16 => ?_
    have hfrom : s.upc.code.toNat ≤ 16 := by omega
    have hsame : t.tRec = s.tRec := by
      by_contra hne
      rw [hrec hne] at hfrom
      exact absurd hfrom (by decide)
    exact hsame.trans (hzero hfrom)
  | sample _ _ hto _ _ _ =>
    rcases afterClassify_cases s.idx with ⟨-, ha⟩ | ⟨-, ha⟩ <;> rw [ha] at hto <;>
      exact restOk_of_pastHandshake (by rw [hto]; decide) (by rw [hto]; decide)
  | pack _ _ hto _ | pass _ _ hto _ _ | convert _ _ hto _ =>
    exact restOk_of_pastHandshake (by rw [hto]; decide) (by rw [hto]; decide)

/-- Settles O54, from what a step does to the core. -/
theorem restInvariantKept : Obligations.RestInvariantKept := by
  unfold Obligations.RestInvariantKept
  exact fun s t hs h => (coreStep_of_step h).restOk hs

/-! ## The control steps -/

/-- An instruction that is the model's `controlStep`, of an operation answered with nothing, is a control step in the
sense of 42 section 2. -/
theorem isControlStep_of_exec {i : Instr} {op : CapOp} {arg : Params → Word} {onward : MicroState}
    (hexec : ∀ s, exec i s = .next (controlStep op (arg s.params) onward s))
    (hempty : ∀ line clock, responseTo op line clock = .empty) : IsControlStep i op arg onward := by
  intro s
  have hrsp : s.responseOf op (arg s.params) = .empty := hempty _ _
  have hissued := issued_issue s op (arg s.params)
  rw [hrsp] at hissued
  obtain ⟨-, hregs, hsur⟩ := coreSame_issue s op (arg s.params)
  exact ⟨_, hexec s, hissued, rfl, hregs, hsur, rfl, rfl, s.clock_le_servedClock op _,
    fun href => State.least_le_servedClock href op _⟩

/-- Settles O17: each of the seven is the model's `controlStep` of its own row. -/
theorem controlStepsOfTheHandshake : Obligations.ControlStepsOfTheHandshake := by
  unfold Obligations.ControlStepsOfTheHandshake
  refine ⟨?_, ?_, ?_, ?_, ?_, ?_, ?_⟩ <;> exact isControlStep_of_exec (fun _ => rfl) fun _ _ => rfl

end Sys2Proof.Machine

/-! # Proofs: the bit sampler (the recorded timestamp, the classification, and one whole bit) -/

namespace Sys2Proof.Machine

/-! ## The recorded timestamp -/

/-- Settles O27: `S_REC` is one `NOW`, whose response is the clock it leaves. -/
theorem recordTimestamp : Obligations.RecordTimestamp := by
  unfold Obligations.RecordTimestamp
  exact fun s => ⟨_, rfl, issued_issue s .now 0#32, rfl, s.clock_le_servedClock .now 0#32, rfl, rfl, rfl, rfl, rfl, rfl,
    ⟨rfl, rfl⟩, rfl, rfl, rfl⟩

/-! ## The classification -/

/-- The state `S_CLS` leaves where it classifies (43 R164). -/
def State.sampled (s : State) : State :=
  ((s.issue .now 0#32).storeBit (classify (s.servedClock .now 0#32 - s.tRec) s.params.tThresholdUs)).setUpc
    (afterClassify s.idx)

theorem exec_sCls_of_classifies {s : State} (hp : Classifies s.params (s.servedClock .now 0#32 - s.tRec))
    (hi : s.idx.toNat ≤ 39) (hr : s.tRec ≤ s.clock) : exec .sCls s = .next s.sampled :=
  execSCls_of_classifies hp hi hr

/-- Each cell after `S_CLS`: the comparison at `IDX`, and elsewhere what it was. -/
theorem State.sampled_bits (s : State) {i : Nat} (h : i < 40) :
    s.sampled.bits[i] =
      if i = s.idx.toNat then decide (s.params.tThresholdUs ≤ s.servedClock .now 0#32 - s.tRec) else s.bits[i] := by
  simp only [State.sampled, State.setUpc_bits, State.storeBit_bits, State.issue_bits, State.issue_idx,
    Vector.getElem_setIfInBounds, classify, eq_comm (b := i)]

theorem State.sampled_bits_idx (s : State) (h : s.idx.toNat < 40) :
    s.sampled.bits[s.idx.toNat] = decide (s.params.tThresholdUs ≤ s.servedClock .now 0#32 - s.tRec) :=
  (s.sampled_bits h).trans (if_pos rfl)

theorem State.sampled_idx_toNat {s : State} (h : s.idx.toNat ≤ 39) : s.sampled.idx.toNat = s.idx.toNat + 1 := by
  rw [State.sampled, State.setUpc_idx]
  exact storeBit_idx_toNat (s := s.issue .now 0#32) _ (Nat.lt_succ_of_le h)

/-- `S_CLS` goes to the packing of the frame after the last bit, and to the next bit after any other (43 R164). -/
theorem State.sampled_upc (s : State) : s.sampled.upc = if s.idx.toNat = 39 then .vPack else .sWhT := by
  rcases afterClassify_cases s.idx with ⟨h, hto⟩ | ⟨h, hto⟩
  · exact hto.trans (if_pos h).symm
  · exact hto.trans (if_neg h).symm

theorem State.sampled_code (s : State) : 17 ≤ s.sampled.upc.code.toNat ∧ s.sampled.upc.code.toNat ≤ 25 := by
  rw [State.sampled_upc]
  split <;> decide

/-- A classification flags nothing: the readout is busy and without error, whatever the elapsed time (43 R165). -/
theorem State.sampled_flags (s : State) : s.sampled.busy = true ∧ s.sampled.errCode = 0#2 := by
  have hcode := s.sampled_code
  exact ⟨s.sampled.busy_iff.mpr (by omega), by rw [State.errCode_eq, if_neg (by omega), if_neg (by omega)]⟩

/-- Settles O28: the state `S_CLS` leaves, field by field. -/
theorem bitIsClassifiedAndStored : Obligations.BitIsClassifiedAndStored := by
  unfold Obligations.BitIsClassifiedAndStored
  intro s hp hidx hrec
  exact ⟨s.sampled, s.servedClock .now 0#32, exec_sCls_of_classifies hp hidx hrec, issued_issue s .now 0#32,
    hrec.trans (s.clock_le_servedClock .now 0#32), fun i => s.sampled_bits i.isLt, State.sampled_idx_toNat hidx, rfl,
    rfl, rfl, rfl, rfl, rfl, ⟨rfl, rfl⟩, rfl, rfl, rfl⟩

/-- Settles O29: a long elapsed time is the fault the parameter makes it, or is classified as a shorter one is. -/
theorem longElapsedTimeFollowsTheParameter : Obligations.LongElapsedTimeFollowsTheParameter := by
  unfold Obligations.LongElapsedTimeFollowsTheParameter
  intro s hidx hrec
  refine ⟨fun hlong hparam => execSCls_of_elapsedViolation hrec hparam hlong, fun hlong hparam => ?_, fun hshort => ?_⟩
  · obtain ⟨hbusy, herr⟩ := s.sampled_flags
    refine ⟨s.sampled, exec_sCls_of_classifies (.inl hparam) hidx hrec, hbusy, herr, s.sampled_bits_idx,
      fun hthreshold h => ?_⟩
    rw [s.sampled_bits_idx h]
    exact decide_eq_true (hthreshold.trans hlong)
  · exact ⟨s.sampled, exec_sCls_of_classifies (.inr hshort) hidx hrec, rfl, s.sampled_upc, s.sampled_bits_idx⟩

/-! ## One whole bit -/

/-- What the sampler leaves as it was up to its classification: the captured data, the pin, and the surroundings. -/
def CaptureFrame (s t : State) : Prop := DataSame s t ∧ PinSame s t ∧ SurroundingsSame s t

theorem WaitFrame.captureFrame {s t : State} (h : WaitFrame s t) : CaptureFrame s t := h.2

theorem CaptureFrame.trans {s u t : State} (h : CaptureFrame s u) (hu : CaptureFrame u t) : CaptureFrame s t := by
  obtain ⟨⟨hidx, hbits, hframe, hhum, htemp⟩, ⟨hmode, hout⟩, hparams, hagenda, hdata⟩ := h
  rwa [CaptureFrame, DataSame, PinSame, SurroundingsSame, ← hidx, ← hbits, ← hframe, ← hhum, ← htemp, ← hmode, ← hout,
    ← hparams, ← hagenda, ← hdata]

theorem Listening.of_captureFrame {s t : State} (h : CaptureFrame s t) (hs : Listening s) : Listening t := by
  obtain ⟨-, hpin, hsur⟩ := h
  exact hs.of_same hpin hsur

/-- `S_REC` records the time at which its `NOW` is served (43 R162). -/
theorem served_record {s : State} {m : EnvMove} {rest : List EnvMove} (hu : s.upc = .sRec) (hagenda : s.agenda = [])
    (hscript : s.script = m :: rest) :
    ∃ t, Served [m] s t ∧ CaptureFrame s t ∧ t.upc = .sWlT ∧ t.tRec = t.clock := by
  have hstep : step s = .next (((s.issue .now 0#32).setRec (s.issue .now 0#32).clock).setUpc .sWlT) :=
    step_at hu hagenda
  exact ⟨_, served_of_step hscript hstep ⟨rfl, rfl, rfl, rfl, rfl, rfl, rfl, rfl⟩ (s.imposedTime_now 0#32),
    ⟨⟨rfl, rfl, rfl, rfl, rfl⟩, ⟨rfl, rfl⟩, rfl, rfl, rfl⟩, rfl, rfl⟩

/-- `S_CLS` classifies the time since the recorded one (43 R164). -/
theorem served_sample {s : State} {m : EnvMove} {rest : List EnvMove} (hu : s.upc = .sCls) (hagenda : s.agenda = [])
    (hscript : s.script = m :: rest) (hp : Classifies s.params (s.servedClock .now 0#32 - s.tRec))
    (hidx : s.idx.toNat ≤ 39) (hrec : s.tRec ≤ s.clock) : Served [m] s s.sampled :=
  served_of_step hscript ((step_at hu hagenda).trans (exec_sCls_of_classifies hp hidx hrec))
    ⟨rfl, rfl, rfl, rfl, rfl, rfl, rfl, rfl⟩ (s.imposedTime_now 0#32)

/-- The level-wait for the start of the pulse, `S_WH` (43 R161). -/
def riseWait : WaitInstance := { entry := .sWhT, query := .sWhQ, check := .sWhC, success := .sRec, target := .high }

theorem riseWait_mem : riseWait ∈ waitInstances := by decide

/-- The level-wait for the end of the pulse, `S_WL` (43 R163). -/
def fallWait : WaitInstance := { entry := .sWlT, query := .sWlQ, check := .sWlC, success := .sCls, target := .low }

theorem fallWait_mem : fallWait ∈ waitInstances := by decide

/-- From its entry, after a rise that is recorded and a fall, a bit is at its classification, with the clock past the
recorded time by what the fall took (43 R160). -/
theorem served_to_sample {s : State} {b : BitStim} {rest : List EnvMove} (hu : s.upc = .sWhT) (hs : Listening s)
    (hscript : s.script = b.rise.moves ++ ([b.record] ++ (b.fall.moves ++ rest)))
    (hb : b.Succeeds s.params.tTimeoutUs) :
    ∃ t, Served (b.rise.moves ++ ([b.record] ++ b.fall.moves)) s t ∧ CaptureFrame s t ∧ t.upc = .sCls ∧
      t.clock = t.tRec + b.fall.span := by
  obtain ⟨hrise, hfall⟩ := hb
  obtain ⟨u, hserved₁, hwait₁, hupc₁, -⟩ := served_waitStim riseWait_mem hu hs hscript hrise
  have hscript₁ : u.script = [b.record] ++ (b.fall.moves ++ rest) := hserved₁.script_eq hscript
  have hframe₁ := hwait₁.captureFrame
  obtain ⟨v, hserved₂, hrecord, hupc₂, hrec⟩ := served_record hupc₁ (hs.of_captureFrame hframe₁).1 hscript₁
  have hframe₂ := hframe₁.trans hrecord
  have ⟨_, _, hparams, _⟩ := hframe₂
  obtain ⟨t, hserved₃, hwait₃, hupc₃, -⟩ := served_waitStim fallWait_mem hupc₂ (hs.of_captureFrame hframe₂)
    (hserved₂.script_eq hscript₁) (hparams ▸ hfall)
  have ⟨hkeep, _⟩ := hwait₃
  refine ⟨t, hserved₁.append (hserved₂.append hserved₃), hframe₂.trans hwait₃.captureFrame, hupc₃, ?_⟩
  rw [hserved₃.clock, hkeep, hrec, WaitStim.sum_delay_moves]

@[simp] theorem BitStim.length_moves (b : BitStim) : b.moves.length = 2 * b.queries + 2 := by
  simp only [BitStim.moves, BitStim.queries, List.length_append, List.length_cons, List.length_nil,
    WaitStim.length_moves]
  omega

/-- One bit against a stimulus that succeeds ends in a classification of its elapsed time. -/
theorem served_bitStim {s : State} {b : BitStim} {rest : List EnvMove} (hu : s.upc = .sWhT) (hs : Listening s)
    (hp : Classifies s.params b.elapsed) (hidx : s.idx.toNat ≤ 39) (hscript : s.script = b.moves ++ rest)
    (hb : b.Succeeds s.params.tTimeoutUs) :
    ∃ t, Served b.moves s t.sampled ∧ CaptureFrame s t ∧ t.servedClock .now 0#32 - t.tRec = b.elapsed := by
  have hscript' : s.script = b.rise.moves ++ ([b.record] ++ (b.fall.moves ++ b.close :: rest)) := by
    simp [hscript, BitStim.moves]
  obtain ⟨t, hserved, hframe, hupc, hclock⟩ := served_to_sample hu hs hscript' hb
  have hleft : t.script = b.close :: rest := hserved.script_eq (by simp [hscript'])
  have helapsed : t.servedClock .now 0#32 - t.tRec = b.elapsed := by
    rw [State.servedClock_now, State.nextMove_cons hleft, hclock, BitStim.elapsed]
    omega
  have ⟨⟨hidx', _⟩, _, hparams, _⟩ := hframe
  have hsample := served_sample hupc (hs.of_captureFrame hframe).1 hleft (by rwa [helapsed, hparams])
    (by rwa [hidx']) (by omega)
  exact ⟨t, by simpa [BitStim.moves] using hserved.append hsample, hframe, helapsed⟩

/-- Settles O31: up to its classification a bit leaves the captured data, and the classification stores it. -/
theorem oneBitIsSampled : Obligations.OneBitIsSampled := by
  unfold Obligations.OneBitIsSampled
  intro s b rest hu hagenda hhears hp hidx hscript hb
  obtain ⟨t, hserved, ⟨⟨hidx', hbits, hframe, hhum, htemp⟩, hpin, hsur⟩, helapsed⟩ :=
    served_bitStim hu ⟨hagenda, hhears⟩ hp hidx hscript hb
  have hleft : t.sampled.script = rest := hserved.script_eq hscript
  obtain ⟨hrun, -, -, htrace⟩ := hserved
  rw [BitStim.length_moves] at hrun htrace
  have ⟨hparams, _⟩ := hsur
  refine ⟨t.sampled, hrun, by rw [State.sampled_upc, hidx'], by rw [State.sampled_idx_toNat (by rwa [hidx']), hidx'],
    fun i => ?_, hleft, htrace, hframe, hhum, htemp, hpin, hsur⟩
  rw [t.sampled_bits i.isLt, hidx', helapsed, hparams]
  simp only [hbits]

end Sys2Proof.Machine

/-! # Proofs: the frame validator (packing, the checksum test, what the checksum detects) -/

namespace Sys2Proof.Machine

/-! ## Packing -/

/-- A frame byte is the sum of its eight bits, weighted from 128 down to 1 (30 R82). -/
theorem frameByte_toNat (bits : Vector Bool 40) (j : Fin 5) :
    (frameByte bits j).toNat =
      ((List.finRange 8).map (fun k => (bits[8 * j.val + k.val]).toNat * 2 ^ (7 - k.val))).sum := by
  rw [← Fin.sum_univ_def, Fin.sum_univ_eight, frameByte, pack8_toNat]
  simp [mul_comm]

/-- Cell `j` of the packed frame is byte `j` of the bits (44 R176). -/
theorem packFrame_getElem (bits : Vector Bool 40) (j : Fin 5) :
    [(packFrame bits).b0, (packFrame bits).b1, (packFrame bits).b2, (packFrame bits).b3, (packFrame bits).b4][j.val] =
      frameByte bits j := by
  fin_cases j <;> rfl

/-- Settles O32: the five cells are the bytes of `BITS`, and nothing but `FRAME` and `UPC` is written. -/
theorem frameIsPacked : Obligations.FrameIsPacked := by
  unfold Obligations.FrameIsPacked
  intro s
  refine ⟨(s.setFrame (packFrame s.bits)).setUpc .vChk, rfl, rfl, fun j => ?_, rfl, rfl, rfl, rfl, rfl, rfl,
    issuedNothing_exec_micro (m := .vPack) rfl, rfl, rfl, rfl⟩
  exact (congrArg BitVec.toNat (packFrame_getElem s.bits j)).trans (frameByte_toNat s.bits j)

/-! ## The checksum test -/

theorem execVChk_of_valid {s : State} (h : s.frame.valid = true) : execVChk s = .next (s.setUpc .cConv) := by
  simp [execVChk, h]

theorem execVChk_of_not_valid {s : State} (h : ¬s.frame.valid = true) :
    execVChk s = .next (s.raiseError .checksumError) := by
  simp [execVChk, h]

/-- Settles O33: the two outcomes of the test of validity, which the premises tell apart. -/
theorem checksumIsChecked : Obligations.ChecksumIsChecked := by
  unfold Obligations.ChecksumIsChecked
  intro s
  by_cases hvalid : s.frame.valid = true
  · have hexec := execVChk_of_valid hvalid
    exact ⟨_, hexec, issuedNothing_execVChk hexec, ⟨rfl, rfl, rfl⟩,
      fun _ => ⟨rfl, rfl, rfl, rfl, rfl, rfl, rfl, rfl⟩, fun hne => absurd (s.frame.valid_iff.mp hvalid) hne⟩
  · have hexec := execVChk_of_not_valid hvalid
    exact ⟨_, hexec, issuedNothing_execVChk hexec, ⟨rfl, rfl, rfl⟩,
      fun heq => absurd (s.frame.valid_iff.mpr heq) hvalid, fun _ => ⟨rfl, registersCleared_raiseError s _⟩⟩

/-! ## What the checksum detects -/

/-- The sum modulo 256 is the sum of the bytes as bytes, where a summand can be cancelled (44 R178). -/
theorem Frame.valid_iff_add (f : Frame) : f.valid = true ↔ f.b4 = f.b0 + f.b1 + f.b2 + f.b3 := by
  rw [f.valid_iff, ← BitVec.toNat_inj]
  simp [Frame.sum, BitVec.toNat_add]

/-- Settles O34: bytes add up in a group, so a valid frame has one checksum byte, and each data byte cancels. -/
theorem checksumDetectsOneByte : Obligations.ChecksumDetectsOneByte := by
  unfold Obligations.ChecksumDetectsOneByte
  simp only [Bool.eq_false_iff, ne_eq, Frame.valid_iff_add]
  refine ⟨fun a b c d => existsUnique_eq, fun f x hf => ?_⟩
  rw [hf]
  refine ⟨mt fun h => ?_, mt fun h => ?_, mt fun h => ?_, mt fun h => ?_, id⟩
  · exact (add_right_cancel (add_right_cancel (add_right_cancel h))).symm
  · exact (add_left_cancel (add_right_cancel (add_right_cancel h))).symm
  · exact (add_left_cancel (add_right_cancel h)).symm
  · exact (add_left_cancel h).symm

end Sys2Proof.Machine

/-! # Proofs: the converter (the Reading in tenths, and its exact value) -/

namespace Sys2Proof.Machine

/-- The largest result of the converter is that of two bytes of 255 (45 R191). -/
theorem tenths_toNat_le (a b : Byte) : (tenths a b).toNat ≤ 2805 := by
  have ha := a.isLt
  have hb := b.isLt
  rw [tenths_toNat]
  omega

/-- Over ten, a quantity in tenths is its whole part and its decimal byte's tenths, a decimal byte above 9 included
(45 R192, R193). -/
theorem tenths_toNat_div_ten (a b : Byte) : ((tenths a b).toNat : ℚ) / 10 = (a.toNat : ℚ) + (b.toNat : ℚ) / 10 := by
  rw [tenths_toNat]
  push_cast
  ring

/-- The state `C_CONV` leaves: the Reading of the four data bytes, in `DONE` (45 R191). -/
def State.converted (s : State) : State :=
  (s.setReading (tenths s.frame.b0 s.frame.b1) (tenths s.frame.b2 s.frame.b3)).setUpc .done

/-- `C_CONV` has no failure path (45 R190). -/
theorem exec_cConv (s : State) : exec .cConv s = .next s.converted := rfl

@[simp] theorem State.converted_upc (s : State) : s.converted.upc = .done := rfl

/-- The readout is over: the flags are those of `DONE` (10 R32). -/
theorem State.converted_flags (s : State) : s.converted.busy = false ∧ s.converted.doneFlag = true := by
  simp [State.busy, State.doneFlag, MicroState.code]

/-- Settles O35: both quantities are values of `tenths`, which twelve bits hold, and only `HUM`, `TEMP` and `UPC` are
written. -/
theorem readingIsConverted : Obligations.ReadingIsConverted := by
  unfold Obligations.ReadingIsConverted
  intro s
  have hexec := exec_cConv s
  obtain ⟨hbusy, hdone⟩ := s.converted_flags
  exact ⟨s.converted, hexec, s.converted_upc, tenths_toNat _ _, tenths_toNat _ _, tenths_toNat_le _ _,
    tenths_toNat_le _ _, hbusy, hdone, rfl, rfl, rfl, rfl, rfl, issuedNothing_exec_micro (m := .cConv) hexec, rfl, rfl,
    rfl⟩

/-- Settles O36: each register holds a value of `tenths`, which division by ten splits exactly. -/
theorem readingIsExactInTenths : Obligations.ReadingIsExactInTenths := by
  unfold Obligations.ReadingIsExactInTenths
  exact fun s => ⟨s.converted, exec_cConv s, tenths_toNat_div_ten _ _, tenths_toNat_div_ten _ _⟩

end Sys2Proof.Machine

/-! # Proofs: the readout (rest and START, the next-state function, and a whole readout from START to its outcome) -/

namespace Sys2Proof.Machine

/-! ## Rest and START -/

/-- Settles O37: each of the four is the identity, and the values of `STATUS` are those of their codes. -/
theorem restMicroStatesChangeNothing : Obligations.RestMicroStatesChangeNothing := by
  unfold Obligations.RestMicroStatesChangeNothing
  constructor
  · intro i hi s
    simp only [List.mem_cons, List.not_mem_nil, or_false] at hi
    rcases hi with rfl | rfl | rfl | rfl <;> exact ⟨s, rfl, rfl⟩
  · intro s
    rw [State.status_eq]
    refine ⟨?_, ?_, ?_, ?_⟩ <;> intro hu <;> rw [hu] <;> rfl

/-- Host data with bit 0 set is START, the other bits ignored (30 R98). -/
theorem decode_host_of_bit_zero {d : Word} (h : d[0] = true) :
    decode (.host d) = .ok (.start (d.extractLsb' 1 31)) := by
  rw [← decode_host_start (d.extractLsb' 1 31), host_eq_append h]

/-- Settles O39, from what `BUSY` is, the word a START is, and the state `beginReadout` leaves. -/
theorem startBeginsAReadout : Obligations.StartBeginsAReadout := by
  unfold Obligations.StartBeginsAReadout
  refine ⟨State.busy_eq_false_iff, fun s d hturn hd => ?_, fun s g hrest => ?_⟩
  · exact step_of_fetch_word (fetch_hostWrite_zero hturn) (decode_host_of_bit_zero hd)
  · exact ⟨s.beginReadout, exec_start_of_not_busy g hrest, rfl, registersCleared_beginReadout s,
      State.status_eq s.beginReadout, ⟨rfl, rfl, rfl, rfl, rfl, rfl, rfl, rfl⟩, rfl, rfl, rfl⟩

/-- Settles O40, from the equation of START. -/
theorem startWhileBusyIsIgnored : Obligations.StartWhileBusyIsIgnored := by
  unfold Obligations.StartWhileBusyIsIgnored
  intro s g hbusy
  rw [exec_start, if_pos hbusy]

/-! ## The next-state function -/

/-- Rest by code: below the handshake and above the converter (10 R32). -/
theorem State.busy_eq_false_of_code {s : State} (h : s.upc.code.toNat = 0 ∨ 28 ≤ s.upc.code.toNat) :
    s.busy = false := by
  rw [Bool.eq_false_iff, ne_eq, State.busy_iff]
  omega

/-- A turn of the core is its micro-operation, in the state with the turn taken. -/
theorem step_core_of_exec {s t : State} {m : MicroState} (hturn : s.turn = .core) (hu : s.upc = m)
    (h : exec m.instr s.popTurn = .next t) : step s = .next t := by
  rw [step_core hturn, hu, h]

/-- The codes 1 to 7 are the control steps, each of which leads to the next code (42 R141 to R147). -/
theorem exists_isControlStep {m : MicroState} (h : 1 ≤ m.code.toNat ∧ m.code.toNat ≤ 7) :
    ∃ op arg onward, IsControlStep m.instr op arg onward ∧ onward.code.toNat = m.code.toNat + 1 := by
  obtain ⟨hOut, hHi0, hLo, hHold, hHi1, hRel, hIn⟩ := controlStepsOfTheHandshake
  cases m with
  | hOut => exact ⟨_, _, _, hOut, rfl⟩
  | hHi0 => exact ⟨_, _, _, hHi0, rfl⟩
  | hLo => exact ⟨_, _, _, hLo, rfl⟩
  | hHold => exact ⟨_, _, _, hHold, rfl⟩
  | hHi1 => exact ⟨_, _, _, hHi1, rfl⟩
  | hRel => exact ⟨_, _, _, hRel, rfl⟩
  | hIn => exact ⟨_, _, _, hIn, rfl⟩
  | _ => exact absurd h (by decide)

/-- The micro-states that lead to the next code whatever is answered, past the control steps (46 R206). -/
theorem onward_of_code (m : MicroState) : m.code.toNat ∈ [8, 11, 14, 17, 20, 21, 25, 27] →
    (∃ w ∈ waitInstances, m = w.entry) ∨ m = .sRec ∨ m = .vPack ∨ m = .cConv := by
  cases m <;> decide

/-- The codes of `x_Q` in its five level-waits (41 R135). -/
theorem query_of_code (m : MicroState) : m.code.toNat ∈ [9, 12, 15, 18, 22] → ∃ w ∈ waitInstances, m = w.query := by
  cases m <;> decide

/-- The codes of `x_C` in its five level-waits (41 R135). -/
theorem check_of_code (m : MicroState) : m.code.toNat ∈ [10, 13, 16, 19, 23] → ∃ w ∈ waitInstances, m = w.check := by
  cases m <;> decide

section
variable {s : State} (hturn : s.turn = .core)
include hturn

/-- A control step, `x_T`, `S_REC`, `V_PACK` and `C_CONV` go to the next code (46 R206). -/
theorem step_onward (h : (1 ≤ s.upc.code.toNat ∧ s.upc.code.toNat ≤ 7) ∨
    s.upc.code.toNat ∈ [8, 11, 14, 17, 20, 21, 25, 27]) :
    ∃ t, step s = .next t ∧ t.upc.code.toNat = s.upc.code.toNat + 1 := by
  rcases h with hcontrol | hcode
  · obtain ⟨op, arg, onward, hstep, hnext⟩ := exists_isControlStep hcontrol
    obtain ⟨t, hexec, -, hupc, -⟩ := hstep s.popTurn
    exact ⟨t, step_core_of_exec hturn rfl hexec, by rw [hupc, hnext]⟩
  · rcases onward_of_code s.upc hcode with ⟨w, hw, hu⟩ | hu | hu | hu
    · obtain ⟨-, hquery, -⟩ := codes_of_mem_waitInstances w hw
      exact ⟨_, step_core_of_exec hturn hu (exec_waitInstance hw s.popTurn).1, by rw [hu, ← hquery]; rfl⟩
    · exact ⟨_, step_core_of_exec hturn hu rfl, by rw [hu]; rfl⟩
    · exact ⟨_, step_core_of_exec hturn hu rfl, by rw [hu]; rfl⟩
    · exact ⟨_, step_core_of_exec hturn hu (exec_cConv s.popTurn), by rw [hu]; rfl⟩

/-- `x_Q` goes two codes on where its response is true and one where it is false (41 R132). -/
theorem step_query (h : s.upc.code.toNat ∈ [9, 12, 15, 18, 22]) :
    ∃ t op r, step s = .next t ∧ Issued s t op 0#32 (.bit r) ∧
      t.upc.code.toNat = s.upc.code.toNat + (if r then 2 else 1) := by
  obtain ⟨w, hw, hu⟩ := query_of_code s.upc h
  obtain ⟨hsuccess, hcheck, hquery⟩ := queryDecidesTheWait.2 w hw
  obtain ⟨t, r, hexec, hissued, -, hupc, -⟩ := hquery s.popTurn
  refine ⟨t, _, r, step_core_of_exec hturn hu hexec, hissued, ?_⟩
  rw [hupc, hu]
  cases r with
  | true => exact hsuccess
  | false => exact hcheck

/-- `x_C` goes to `ERR_TIMEOUT` where its response is past the deadline, and otherwise back to the query (41 R133). -/
theorem step_check (h : s.upc.code.toNat ∈ [10, 13, 16, 19, 23]) :
    ∃ t n, step s = .next t ∧ Issued s t .now 0#32 (.time n) ∧
      if s.tEntry + s.params.tTimeoutUs < n then t.upc.code.toNat = 29
      else t.upc.code.toNat + 1 = s.upc.code.toNat := by
  obtain ⟨w, hw, hu⟩ := check_of_code s.upc h
  obtain ⟨hcode, hcheck⟩ := deadlineIsChecked.2 w hw
  obtain ⟨t, n, hexec, hissued, -, -, hwithin, hpast, -⟩ := hcheck s.popTurn
  refine ⟨t, n, step_core_of_exec hturn hu hexec, hissued, ?_⟩
  split
  next hlt => rw [(hpast hlt).1]; rfl
  next hle => rw [(hwithin (not_lt.mp hle)).1, hu, hcode]

/-- `S_CLS`, where it classifies, goes to `V_PACK` after the last bit and to the next bit after any other (43 R164). -/
theorem step_classify (hcode : s.upc.code.toNat = 24)
    (hp : Classifies s.params (s.servedClock .now 0#32 - s.tRec)) (hidx : s.idx.toNat ≤ 39) (hrec : s.tRec ≤ s.clock) :
    ∃ t, step s = .next t ∧ t.upc.code.toNat = if s.idx.toNat = 39 then 25 else 17 := by
  have hu : s.upc = .sCls := MicroState.code_injective (BitVec.eq_of_toNat_eq hcode)
  refine ⟨_, step_core_of_exec hturn hu (exec_sCls_of_classifies (s := s.popTurn) hp hidx hrec), ?_⟩
  rw [State.sampled_upc, State.popTurn_idx]
  split <;> rfl

/-- `V_CHK` goes to the converter or to `ERR_CHECKSUM`, as the fifth byte says (44 R178). -/
theorem step_validate (hcode : s.upc.code.toNat = 26) :
    ∃ t, step s = .next t ∧ t.upc.code.toNat =
      if s.frame.b4.toNat = (s.frame.b0.toNat + s.frame.b1.toNat + s.frame.b2.toNat + s.frame.b3.toNat) % 256
      then 27 else 30 := by
  have hu : s.upc = .vChk := MicroState.code_injective (BitVec.eq_of_toNat_eq hcode)
  obtain ⟨t, hexec, -, -, hpass, hfail⟩ := checksumIsChecked s.popTurn
  refine ⟨t, step_core_of_exec hturn hu hexec, ?_⟩
  split
  next hsum => rw [(hpass hsum).1]; rfl
  next hsum => rw [(hfail hsum).1]; rfl

end

/-- START at rest is the step to `H_OUT`, with its turn over (46 R204). -/
theorem step_start {s : State} {d : Word} (hturn : s.turn = .hostWrite 0 d) (hd : d[0] = true)
    (hrest : s.busy = false) : step s = .next s.popTurn.beginReadout := by
  rw [step_hostWrite hturn, if_pos ⟨rfl, hd, hrest⟩]

/-- A host write that is no START, or a START while `BUSY = 1`, only takes its turn (10 R41, R45; 46 R205). -/
theorem step_hostWrite_of_no_start {s : State} {n : Nat} {d : Word} (hturn : s.turn = .hostWrite n d)
    (hno : n ≠ 0 ∨ d[0] = false ∨ s.busy = true) : step s = .next s.popTurn := by
  rcases or_assoc.mpr hno with hno | hbusy
  · exact step_hostWrite_ignored hturn hno
  · rw [step_hostWrite hturn, if_neg (by simp [hbusy])]

/-- A bus word moves nothing of the core (40 R110). -/
theorem upc_of_step_busWord {s t : State} {w : BitVec 36} (hturn : s.turn = .busWord w) (h : step s = .next t) :
    t.upc = s.upc := by
  rcases step_cases h with ⟨h', -⟩ | ⟨_, _, h', -⟩ | ⟨_, _, h', -⟩ | ⟨_, h', -⟩ | ⟨_, h', -⟩ | ⟨_, op, arg, -, rfl⟩
  case inr.inr.inr.inr.inr => rfl
  all_goals cases hturn.symm.trans h'

/-- Settles O45: one lemma for each kind of micro-state in the core's turn, and one for each other turn. -/
theorem nextStateTable : Obligations.NextStateTable := by
  unfold Obligations.NextStateTable
  refine ⟨fun s hturn => ⟨fun hcode => ?_, step_onward hturn, step_query hturn, step_check hturn, step_classify hturn,
    step_validate hturn⟩, fun s d hturn hd hcode => ?_, fun s n d hturn hno => ?_, fun s n hturn => ?_,
    fun s t w => upc_of_step_busWord, fun s c w hturn => ?_⟩
  · exact ⟨_, step_core_of_not_busy hturn (State.busy_eq_false_of_code hcode), rfl⟩
  · exact ⟨_, step_start hturn hd (State.busy_eq_false_of_code hcode), rfl⟩
  · exact ⟨_, step_hostWrite_of_no_start hturn hno, rfl⟩
  · exact ⟨_, step_hostRead hturn, rfl⟩
  · exact ⟨_, step_reset hturn, rfl⟩

/-! ## From the 40 bits on -/

/-- The run from `s` ends in `t` as the frame `f` decides: in `DONE` with the conversion of its bytes after `n + 1`
steps where the fifth is the sum of the others modulo 256, and otherwise one step earlier in `ERR_CHECKSUM` with no
Reading (46 R201). -/
def FrameDecides (f : Frame) (n : Nat) (s t : State) : Prop :=
  if f.b4.toNat = (f.b0.toNat + f.b1.toNat + f.b2.toNat + f.b3.toNat) % 256 then
    run (n + 1) s = .next t ∧ t.upc = .done ∧ t.hum.toNat = 10 * f.b0.toNat + f.b1.toNat ∧
      t.temp.toNat = 10 * f.b2.toNat + f.b3.toNat
  else run n s = .next t ∧ t.upc = .errChecksum ∧ t.hum = 0#12 ∧ t.temp = 0#12

/-- Steps taken before are counted before. -/
theorem FrameDecides.of_run {f : Frame} {j n : Nat} {s u t : State} (h : run j s = .next u)
    (hu : FrameDecides f n u t) : FrameDecides f (j + n) s t := by
  rwa [FrameDecides, Nat.add_assoc j n 1, run_add h, run_add h]

/-- From `V_CHK` on, the frame decides, and nothing is issued (44 R178, 45 R191). -/
theorem frameDecides_of_vChk {s : State} (hu : s.upc = .vChk) (hagenda : s.agenda = []) :
    ∃ t, IssuedNothing s t ∧ FrameDecides s.frame 1 s t := by
  by_cases hsum : s.frame.b4.toNat =
      (s.frame.b0.toNat + s.frame.b1.toNat + s.frame.b2.toNat + s.frame.b3.toNat) % 256
  · have hpass : step s = .next (s.setUpc .cConv) :=
      (step_at hu hagenda).trans (execVChk_of_valid (s.frame.valid_iff.mpr hsum))
    have hconvert : step (s.setUpc .cConv) = .next (s.setUpc .cConv).converted :=
      step_at (m := .cConv) rfl hagenda
    refine ⟨(s.setUpc .cConv).converted, ⟨rfl, rfl, rfl, rfl, rfl, rfl, rfl, rfl⟩, ?_⟩
    rw [FrameDecides, if_pos hsum]
    exact ⟨by rw [run_succ hpass, run_one hconvert], rfl, tenths_toNat _ _, tenths_toNat _ _⟩
  · have hfail : step s = .next (s.raiseError .checksumError) :=
      (step_at hu hagenda).trans (execVChk_of_not_valid fun hvalid => hsum (s.frame.valid_iff.mp hvalid))
    refine ⟨s.raiseError .checksumError, ⟨rfl, rfl, rfl, rfl, rfl, rfl, rfl, rfl⟩, ?_⟩
    rw [FrameDecides, if_neg hsum]
    exact ⟨run_one hfail, rfl, rfl, rfl⟩

/-- From `V_PACK` on, the packed bits decide, and nothing is issued (44 R176). -/
theorem frameDecides_of_vPack {s : State} (hu : s.upc = .vPack) (hagenda : s.agenda = []) :
    ∃ t, IssuedNothing s t ∧ FrameDecides (packFrame s.bits) 2 s t := by
  have hpack : step s = .next ((s.setFrame (packFrame s.bits)).setUpc .vChk) := step_at hu hagenda
  obtain ⟨t, hnothing, hdecides⟩ :=
    frameDecides_of_vChk (s := (s.setFrame (packFrame s.bits)).setUpc .vChk) rfl hagenda
  exact ⟨t, hnothing, hdecides.of_run (run_one hpack)⟩

/-- Settles O47: the two steps from `V_PACK`, and the third where the frame passes. -/
theorem fortyBitsDecideTheOutcome : Obligations.FortyBitsDecideTheOutcome := by
  unfold Obligations.FortyBitsDecideTheOutcome
  intro s hu hagenda _ _
  obtain ⟨t, ⟨htrace, -⟩, hdecides⟩ := frameDecides_of_vPack hu hagenda
  exact ⟨t, htrace, hdecides⟩

/-! ## Runs whose waits may take time by themselves -/

/-- A run from `s` to `t` in which each step issues one operation and the environment's moves are `ms`; unlike `Served`
it says nothing of the clock, which a `WAIT` of the reference environment moves by more than its move (40 R118). -/
structure Follows (ms : List EnvMove) (s t : State) : Prop where
  run : run ms.length s = .next t
  script : s.script = ms ++ t.script
  trace : t.trace.length = s.trace.length + ms.length

theorem Served.follows {ms : List EnvMove} {s t : State} (h : Served ms s t) : Follows ms s t :=
  ⟨h.run, h.script, h.trace⟩

/-- What the script holds after the moves made is what is left of it. -/
theorem Follows.script_eq {ms rest : List EnvMove} {s t : State} (h : Follows ms s t)
    (hscript : s.script = ms ++ rest) : t.script = rest :=
  List.append_cancel_left (h.script.symm.trans hscript)

theorem Follows.nil (s : State) : Follows [] s s := ⟨rfl, rfl, rfl⟩

theorem Follows.append {ms ns : List EnvMove} {s u t : State} (h : Follows ms s u) (hu : Follows ns u t) :
    Follows (ms ++ ns) s t where
  run := by rw [List.length_append, run_add h.run, hu.run]
  script := by rw [h.script, hu.script, List.append_assoc]
  trace := by rw [hu.trace, h.trace, List.length_append, Nat.add_assoc]

/-- A step that issues an operation, whatever time it takes by itself, makes the next move of the script. -/
theorem follows_of_step {m : EnvMove} {rest : List EnvMove} {s t : State} {op : CapOp} {arg : Word} {rsp : Response}
    (hscript : s.script = m :: rest) (hstep : step s = .next t) (hissued : Issued s t op arg rsp) :
    Follows [m] s t := by
  obtain ⟨htrace, -, hleft, -⟩ := hissued
  refine ⟨run_one hstep, ?_, ?_⟩
  · rw [hleft, hscript]
    rfl
  · rw [htrace]
    rfl

/-! ## The handshake -/

theorem surroundingsSame_trans {s u t : State} (h : SurroundingsSame s u) (hu : SurroundingsSame u t) :
    SurroundingsSame s t := by
  obtain ⟨hparams, hagenda, hdata⟩ := h
  rwa [SurroundingsSame, ← hparams, ← hagenda, ← hdata]

theorem pinSame_trans {s u t : State} (h : PinSame s u) (hu : PinSame u t) : PinSame s t := by
  obtain ⟨hmode, hout⟩ := h
  rwa [PinSame, ← hmode, ← hout]

theorem coreOnly_of_agenda_nil {s : State} (h : s.agenda = []) : CoreOnly s :=
  fun _ hturn => absurd (h ▸ hturn) List.not_mem_nil

/-- By induction on the control steps left: they lead to the first level-wait under the mode discipline (42 section 2,
40 R125). -/
theorem follows_control {rest : List EnvMove} (control : List EnvMove) :
    ∀ {s : State}, 1 ≤ s.upc.code.toNat → s.upc.code.toNat + control.length = 8 → s.agenda = [] → PinOk s →
      s.script = control ++ rest →
      ∃ t, Follows control s t ∧ t.upc = .hW1T ∧ t.idx = s.idx ∧ SurroundingsSame s t ∧ PinOk t := by
  induction control with
  | nil =>
    intro s _ hlength _ hpin _
    exact ⟨s, .nil s, MicroState.code_injective (BitVec.eq_of_toNat_eq hlength), rfl, ⟨rfl, rfl, rfl⟩, hpin⟩
  | cons m control ih =>
    intro s hone hlength hagenda hpin hscript
    rw [List.length_cons] at hlength
    obtain ⟨op, arg, onward, hcontrol, hnext⟩ := exists_isControlStep ⟨hone, by omega⟩
    obtain ⟨u, hexec, hissued, hupc, ⟨-, -, hidx, -⟩, hsur, -⟩ := hcontrol s
    have hstep : step s = .next u := (step_core_nil hagenda).trans hexec
    have hfollows := follows_of_step hscript hstep hissued
    have hcode : u.upc.code.toNat = s.upc.code.toNat + 1 := by rw [hupc, hnext]
    have ⟨_, hempty, _⟩ := hsur
    obtain ⟨t, hfollows', hupc', hidx', hsur', hpin'⟩ :=
      ih (s := u) (by omega) (by omega) (hempty.trans hagenda)
        (pinOk_of_step (coreOnly_of_agenda_nil hagenda) hpin hstep) (hfollows.script_eq hscript)
    exact ⟨t, hfollows.append hfollows', hupc', hidx'.trans hidx, surroundingsSame_trans hsur hsur', hpin'⟩

/-- The three level-waits of the handshake, one after the other (42 R148 to R150). -/
theorem served_handshakeWaits {s : State} {x y z : WaitStim} {rest : List EnvMove} (hu : s.upc = .hW1T)
    (hs : Listening s) (hscript : s.script = x.moves ++ (y.moves ++ (z.moves ++ rest)))
    (hx : x.Succeeds .low s.params.tTimeoutUs) (hy : y.Succeeds .high s.params.tTimeoutUs)
    (hz : z.Succeeds .low s.params.tTimeoutUs) :
    ∃ t, Served (x.moves ++ (y.moves ++ z.moves)) s t ∧ WaitFrame s t ∧ t.upc = .sWhT := by
  obtain ⟨u, hserved₁, hframe₁, hupc₁, -⟩ := served_waitStim
    (w := ⟨.hW1T, .hW1Q, .hW1C, .hW2T, .low⟩) (by decide) hu hs hscript hx
  have hscript₁ := hserved₁.script_eq hscript
  have ⟨_, _, _, hparams₁, _⟩ := hframe₁
  obtain ⟨v, hserved₂, hframe₂, hupc₂, -⟩ := served_waitStim
    (w := ⟨.hW2T, .hW2Q, .hW2C, .hW3T, .high⟩) (by decide) hupc₁ (hs.of_frame hframe₁) hscript₁ (hparams₁ ▸ hy)
  have hframe := hframe₁.trans hframe₂
  have ⟨_, _, _, hparams₂, _⟩ := hframe
  obtain ⟨t, hserved₃, hframe₃, hupc₃, -⟩ := served_waitStim
    (w := ⟨.hW3T, .hW3Q, .hW3C, .sWhT, .low⟩) (by decide) hupc₂ (hs.of_frame hframe) (hserved₂.script_eq hscript₁)
    (hparams₂ ▸ hz)
  exact ⟨t, hserved₁.append (hserved₂.append hserved₃), hframe.trans hframe₃, hupc₃⟩

/-- From `H_OUT`, where every level-wait of the handshake succeeds, the core comes to the sampler and listens
(42 section 2 and R148 to R150). -/
theorem follows_handshake {s : State} {control : List EnvMove} {x y z : WaitStim} {rest : List EnvMove}
    (hu : s.upc = .hOut) (hagenda : s.agenda = []) (hcontrol : control.length = 7)
    (hx : x.Succeeds .low s.params.tTimeoutUs) (hy : y.Succeeds .high s.params.tTimeoutUs)
    (hz : z.Succeeds .low s.params.tTimeoutUs)
    (hscript : s.script = (control ++ (x.moves ++ (y.moves ++ z.moves))) ++ rest) :
    ∃ t, Follows (control ++ (x.moves ++ (y.moves ++ z.moves))) s t ∧ t.upc = .sWhT ∧ t.idx = s.idx ∧
      SurroundingsSame s t ∧ t.pinMode = .input ∧ t.pinOut = .high := by
  have hcode : s.upc.code.toNat = 1 := by rw [hu]; rfl
  simp only [List.append_assoc] at hscript
  obtain ⟨u, hfollows, hupc, hidx, hsur, -, -, -, hlisten⟩ :=
    follows_control control (by omega) (by omega) hagenda (pinOk_of_code_le_one (by omega)) hscript
  have ⟨hparams, hagenda', _⟩ := hsur
  obtain ⟨hmode, hout⟩ := hlisten (by rw [hupc]; decide)
  obtain ⟨t, hserved, ⟨-, ⟨hidx', -⟩, ⟨hmode', hout'⟩, hsur'⟩, hupc'⟩ :=
    served_handshakeWaits hupc ⟨hagenda'.trans hagenda, .inr (by rw [hmode]; decide)⟩ (hfollows.script_eq hscript)
      (hparams ▸ hx) (hparams ▸ hy) (hparams ▸ hz)
  exact ⟨t, hfollows.append hserved.follows, hupc', hidx'.trans hidx, surroundingsSame_trans hsur hsur',
    hmode'.trans hmode, hout'.trans hout⟩

/-! ## The forty bits -/

/-- The bits classified so far, in temporal order: the cells of `BITS` below `IDX` (10 R23, R24). -/
def State.captured (s : State) : List Bool := s.bits.toList.take s.idx.toNat

theorem State.captured_of_idx_zero {s : State} (h : s.idx.toNat = 0) : s.captured = [] := by
  rw [State.captured, h, List.take_zero]

theorem State.captured_of_idx_forty {s : State} (h : s.idx.toNat = 40) : s.captured = s.bits.toList := by
  rw [State.captured, h, List.take_of_length_le (by simp)]

/-- Each classification captures one more bit (43 R164). -/
theorem State.captured_sampled {s : State} (h : s.idx.toNat ≤ 39) :
    s.sampled.captured = s.captured ++ [classify (s.servedClock .now 0#32 - s.tRec) s.params.tThresholdUs] := by
  have hbits : s.sampled.bits = s.bits.setIfInBounds s.idx.toNat
      (classify (s.servedClock .now 0#32 - s.tRec) s.params.tThresholdUs) := rfl
  have hlt : s.idx.toNat < (s.bits.toList.set s.idx.toNat
      (classify (s.servedClock .now 0#32 - s.tRec) s.params.tThresholdUs)).length := by
    rw [List.length_set, Vector.length_toList]
    omega
  rw [State.captured, State.sampled_idx_toNat h, hbits, Vector.toList_setIfInBounds,
    List.take_succ_eq_append_getElem hlt, List.take_set_of_le le_rfl, List.getElem_set_self, State.captured]

/-- Where the sampler stands between two bits (43 R164). -/
def AtBit (s : State) : Prop := s.upc = if s.idx.toNat = 40 then .vPack else .sWhT

/-- One bit captures the classification of its elapsed time, and the sampler is at the next. -/
theorem served_bit {s : State} {b : BitStim} {rest : List EnvMove} (hat : AtBit s) (hs : Listening s)
    (hidx : s.idx.toNat ≤ 39) (hp : Classifies s.params b.elapsed) (hb : b.Succeeds s.params.tTimeoutUs)
    (hscript : s.script = b.moves ++ rest) :
    ∃ t, Served b.moves s t ∧ AtBit t ∧ t.idx.toNat = s.idx.toNat + 1 ∧
      t.captured = s.captured ++ [classify b.elapsed s.params.tThresholdUs] ∧ PinSame s t ∧ SurroundingsSame s t := by
  rw [AtBit, if_neg (by omega)] at hat
  obtain ⟨c, hserved, ⟨⟨hcidx, hbits, -⟩, hpin, hsur⟩, helapsed⟩ := served_bitStim hat hs hp hidx hscript hb
  have ⟨hparams, _⟩ := hsur
  have hle : c.idx.toNat ≤ 39 := hcidx ▸ hidx
  refine ⟨c.sampled, hserved, ?_, ?_, ?_, hpin, hsur⟩
  · rw [AtBit, State.sampled_upc, State.sampled_idx_toNat hle]
    simp
  · rw [State.sampled_idx_toNat hle, hcidx]
  · rw [State.captured_sampled hle, helapsed, hparams, State.captured, hbits, hcidx, State.captured]

/-- By induction on the bits left: the sampler captures them all and goes on to the frame (43 R160). -/
theorem served_bits {rest : List EnvMove} (bs : List BitStim) :
    ∀ {s : State}, AtBit s → Listening s → s.idx.toNat + bs.length = 40 → (∀ b ∈ bs, Classifies s.params b.elapsed) →
      (∀ b ∈ bs, b.Succeeds s.params.tTimeoutUs) → s.script = bs.flatMap BitStim.moves ++ rest →
      ∃ t, Served (bs.flatMap BitStim.moves) s t ∧ t.upc = .vPack ∧
        t.bits.toList = s.captured ++ bs.map (fun b => classify b.elapsed s.params.tThresholdUs) ∧ PinSame s t ∧
        SurroundingsSame s t := by
  induction bs with
  | nil =>
    intro s hat _ hlength _ _ _
    rw [List.length_nil, Nat.add_zero] at hlength
    refine ⟨s, .nil s, ?_, ?_, ⟨rfl, rfl⟩, rfl, rfl, rfl⟩
    · rw [hat, if_pos hlength]
    · rw [State.captured_of_idx_forty hlength, List.map_nil, List.append_nil]
  | cons b bs ih =>
    intro s hat hs hlength hp hsucceed hscript
    rw [List.length_cons] at hlength
    rw [List.forall_mem_cons] at hp hsucceed
    rw [List.flatMap_cons, List.append_assoc] at hscript
    obtain ⟨u, hserved, hat', hidx, hcaptured, hpin, hsur⟩ := served_bit hat hs (by omega) hp.1 hsucceed.1 hscript
    have ⟨hparams, _⟩ := hsur
    obtain ⟨t, hserved', hupc, hbits, hpin', hsur'⟩ := ih hat' (hs.of_same hpin hsur) (by omega)
      (hparams ▸ hp.2) (hparams ▸ hsucceed.2) (hserved.script_eq hscript)
    refine ⟨t, hserved.append hserved', hupc, ?_, pinSame_trans hpin hpin', surroundingsSame_trans hsur hsur'⟩
    rw [hbits, hcaptured, hparams, List.map_cons, List.append_assoc, List.singleton_append]

/-! ## A whole readout -/

/-- The moves of a readout are one for each operation it issues (46 R208). -/
theorem ReadoutStim.length_moves (r : ReadoutStim) :
    r.moves.length = r.control.length + 2 * r.queries + 2 * r.bits.length := by
  have hbits : (r.bits.flatMap BitStim.moves).length = 2 * (r.bits.map BitStim.queries).sum + 2 * r.bits.length := by
    induction r.bits with
    | nil => rfl
    | cons b bs ih =>
      rw [List.flatMap_cons, List.length_append, ih, BitStim.length_moves, List.map_cons, List.sum_cons,
        List.length_cons]
      omega
  simp only [ReadoutStim.moves, ReadoutStim.queries, List.length_append, WaitStim.length_moves, hbits]
  omega

/-- From `H_OUT`, against a stimulus that succeeds, the core comes to `V_PACK` with the classified bits in `BITS` and
the pin in input mode with its latch high (46 R208, 40 R125). -/
theorem follows_readout {s : State} {r : ReadoutStim} {rest : List EnvMove} (hu : s.upc = .hOut)
    (hagenda : s.agenda = []) (hidx : s.idx = 0#6) (hp : ∀ b ∈ r.bits, Classifies s.params b.elapsed)
    (hr : r.Succeeds s.params.tTimeoutUs) (hlength : r.bits.length = 40) (hscript : s.script = r.moves ++ rest) :
    ∃ t, Follows r.moves s t ∧ t.upc = .vPack ∧ t.agenda = [] ∧ t.bits.toList = r.sampled s.params.tThresholdUs ∧
      t.pinMode = .input ∧ t.pinOut = .high := by
  obtain ⟨hcontrol, hw1, hw2, hw3, hbits⟩ := hr
  have hmoves : r.moves = (r.control ++ (r.w1.moves ++ (r.w2.moves ++ r.w3.moves))) ++
      r.bits.flatMap BitStim.moves := by
    simp only [ReadoutStim.moves, List.append_assoc]
  rw [hmoves, List.append_assoc] at hscript
  obtain ⟨u, hfollows, hupc, hidx', hsur, hmode, hout⟩ := follows_handshake hu hagenda hcontrol hw1 hw2 hw3 hscript
  have ⟨hparams, hagenda', _⟩ := hsur
  have hzero : u.idx.toNat = 0 := by rw [hidx', hidx]; rfl
  obtain ⟨t, hserved, hupc', hcaptured, ⟨hmode', hout'⟩, _, hagenda'', _⟩ :=
    served_bits r.bits (by rw [AtBit, hupc, if_neg (by omega)])
      ⟨hagenda'.trans hagenda, .inr (by rw [hmode]; decide)⟩ (by omega) (hparams ▸ hp) (hparams ▸ hbits)
      (hfollows.script_eq hscript)
  refine ⟨t, hmoves ▸ hfollows.append hserved.follows, hupc', hagenda''.trans (hagenda'.trans hagenda), ?_,
    hmode'.trans hmode, hout'.trans hout⟩
  rw [hcaptured, State.captured_of_idx_zero hzero, List.nil_append, hparams, ReadoutStim.sampled]

/-- Settles O48: the step of START, one step for each operation of the readout, and the two or three from `V_PACK`. -/
theorem wholeReadout : Obligations.WholeReadout := by
  unfold Obligations.WholeReadout
  intro s d r v rest hrest hagenda hd hp hscript hr hv
  have hstart : step s = .next s.popTurn.beginReadout := step_start (State.turn_cons hagenda) hd hrest
  have hlength : r.bits.length = 40 := by simpa [ReadoutStim.sampled] using (congrArg List.length hv).symm
  have hempty : s.popTurn.beginReadout.agenda = [] := (agenda_of_step hstart).trans (by rw [hagenda]; rfl)
  obtain ⟨u, hfollows, hupc, hagenda', hbits, hmode, hout⟩ :=
    follows_readout (s := s.popTurn.beginReadout) rfl hempty rfl hp hr hlength hscript
  have hbits' : u.bits = v := Vector.toList_inj.mp (hbits.trans hv.symm)
  have hleft := hfollows.script_eq hscript
  obtain ⟨hrun, -, htrace⟩ := hfollows
  obtain ⟨t, ⟨htrace', hmode', hout', -, -, hleft', -⟩, hdecides⟩ := frameDecides_of_vPack hupc hagenda'
  have hmoves : r.moves.length = 7 + 2 * r.queries + 80 := by rw [ReadoutStim.length_moves, hr.1, hlength]
  rw [hmoves] at hrun htrace
  rw [hbits'] at hdecides
  refine ⟨t, by rw [htrace', htrace]; rfl, hleft'.trans hleft, hmode'.trans hmode, hout'.trans hout, ?_⟩
  exact (hdecides.of_run hrun).of_run (run_one hstart)

end Sys2Proof.Machine

/-! # Proofs: exceptions and reset (error entry, which events enter an error micro-state, reset over everything) -/

namespace Sys2Proof.Machine

/-! ## Error entry -/

/-- Past the deadline `x_C` raises Timeout after its own `NOW` (41 R133, 60 R226). -/
theorem exec_check_of_past {w : WaitInstance} (hw : w ∈ waitInstances) {s : State}
    (hpast : s.tEntry + s.params.tTimeoutUs < s.servedClock .now 0#32) :
    exec w.check.instr s = .next ((s.issue .now 0#32).raiseError .timeout) := by
  rw [(exec_waitInstance hw s).2.2]
  rcases checkDeadline_cases w.query s with ⟨-, h⟩ | ⟨hwithin, -⟩
  · rw [h]
  · exact absurd hpast hwithin.not_gt

/-- Error entry is no move of the environment, and it adds no line to the trace (60 R226). -/
theorem issuedNothing_raiseError (s : State) (e : ErrorKind) : IssuedNothing s (s.raiseError e) :=
  ⟨rfl, rfl, rfl, rfl, rfl, rfl, rfl, rfl⟩

/-- Settles O24: each error is `raiseError`, of the state after the check's `NOW` or of the state `V_CHK` finds. -/
theorem errorEntryClearsTheDatapath : Obligations.ErrorEntryClearsTheDatapath := by
  unfold Obligations.ErrorEntryClearsTheDatapath
  refine ⟨fun w hw s hpast => ?_, fun s hsum => ?_⟩
  · obtain ⟨htrace, henv⟩ := issuedNothing_raiseError (s.issue .now 0#32) .timeout
    exact ⟨_, exec_check_of_past hw hpast, rfl, registersCleared_raiseError _ _, htrace, henv, rfl, rfl, rfl⟩
  · have hinvalid : ¬s.frame.valid = true := mt s.frame.valid_iff.mp hsum
    exact ⟨_, execVChk_of_not_valid hinvalid, rfl, registersCleared_raiseError _ _, issuedNothing_raiseError _ _,
      rfl, rfl, rfl⟩

/-! ## No recovery data -/

/-- What is left once the datapath is cleared is fixed by what lies outside it. -/
theorem clearDatapath_congr {s u : State} (hupc : u.upc = s.upc) (htrace : u.trace = s.trace)
    (henv : EnvironmentSame s u) (hsur : SurroundingsSame s u) : s.clearDatapath = u.clearDatapath := by
  obtain ⟨hmode, hout, hline, hclock, hscript, hlasting, htick⟩ := henv
  obtain ⟨hparams, hagenda, hdata⟩ := hsur
  simp only [State.clearDatapath, hupc, htrace, hmode, hout, hline, hclock, hscript, hlasting, htick, hparams, hagenda,
    hdata]

/-- An operation reads nothing of the datapath, so it commutes with clearing it (40 R110). -/
theorem clearDatapath_issue (s : State) (op : CapOp) (arg : Word) :
    (s.issue op arg).clearDatapath = s.clearDatapath.issue op arg := rfl

/-- Settles O25: error entry keeps only what clearing leaves, and the `NOW` before it does not see the datapath. -/
theorem errorEntryForgetsTheReadout : Obligations.ErrorEntryForgetsTheReadout := by
  unfold Obligations.ErrorEntryForgetsTheReadout
  intro s u hupc htrace henv hsur
  have hcleared := clearDatapath_congr hupc htrace henv hsur
  refine ⟨fun w hw hs hu => ?_, fun hs hu => ?_⟩
  · rw [exec_check_of_past hw hs, exec_check_of_past hw hu]
    simp only [State.raiseError, clearDatapath_issue, hcleared]
  · have hexec : exec .vChk s = .next (s.raiseError .checksumError) := execVChk_of_not_valid (Bool.eq_false_iff.mp hs)
    have hexec' : exec .vChk u = .next (u.raiseError .checksumError) := execVChk_of_not_valid (Bool.eq_false_iff.mp hu)
    rw [hexec, hexec']
    simp only [State.raiseError, hcleared]

/-! ## What enters an error micro-state -/

/-- The two ways from a state into an error micro-state, by the state they start from and the one they leave
(60 R221, R223). -/
inductive ErrorEntry (s t : State) : Prop
  /-- A deadline check past the deadline. -/
  | timeout (hfrom : s.upc ∈ [.hW1C, .hW2C, .hW3C, .sWhC, .sWlC])
      (hpast : s.tEntry + s.params.tTimeoutUs < s.servedClock .now 0#32)
      (hto : t = (s.issue .now 0#32).raiseError .timeout)
  /-- `V_CHK` on a frame that is not valid. -/
  | checksum (hfrom : s.upc = .vChk) (hinvalid : s.frame.valid = false) (hto : t = s.raiseError .checksumError)

theorem check_of_mem_waitInstances :
    ∀ w ∈ waitInstances, w.check ∈ [.hW1C, .hW2C, .hW3C, .sWhC, .sWlC] := by
  decide

/-- Of the micro-operations of a level-wait only a check past the deadline leads to an error. -/
theorem errorEntry_of_wait {s t : State} {w : WaitInstance} (hw : w ∈ waitInstances)
    (h : (s.upc = w.entry ∧ t = takeEntry w.query s) ∨
      (s.upc = w.query ∧ t = queryPin w.target w.success w.check s) ∨
      (s.upc = w.check ∧ t = checkDeadline w.query s)) (herr : 29 ≤ t.upc.code.toNat) : ErrorEntry s t := by
  obtain ⟨-, hquery, hcheck, hsuccess, hle⟩ := codes_of_mem_waitInstances w hw
  rcases h with ⟨-, rfl⟩ | ⟨-, rfl⟩ | ⟨hu, rfl⟩
  · have hto : (takeEntry w.query s).upc = w.query := rfl
    rw [hto] at herr
    omega
  · rcases queryPin_cases w.target w.success w.check s with ⟨-, hq⟩ | ⟨-, hq⟩ <;>
      rw [hq, State.setUpc_upc] at herr <;> omega
  · rcases checkDeadline_cases w.query s with ⟨hpast, hc⟩ | ⟨-, hc⟩
    · exact .timeout (hu ▸ check_of_mem_waitInstances w hw) hpast hc
    · rw [hc, State.setUpc_upc] at herr
      omega

/-- A micro-operation that leads to an error micro-state from another one is one of the two checks. -/
theorem errorEntry_exec_micro {s t : State} (h : exec s.upc.instr s = .next t) (herr : 29 ≤ t.upc.code.toNat)
    (hne : t.upc ≠ s.upc) : ErrorEntry s t := by
  rcases exec_micro_cases h with ⟨-, rfl⟩ | ⟨op, arg, onward, hrow, rfl⟩ | ⟨w, hw, hwait⟩ | ⟨-, rfl⟩ | ⟨-, -, rfl⟩ |
    ⟨-, rfl⟩ | ⟨-, -, rfl⟩ | ⟨hu, hinvalid, rfl⟩ | ⟨-, rfl⟩
  · exact absurd rfl hne
  · obtain ⟨-, -, -, hle, -⟩ := onward_of_controlRow hrow
    have hto : (controlStep op arg onward s).upc = onward := rfl
    rw [hto] at herr
    omega
  · exact errorEntry_of_wait hw hwait herr
  · exact absurd herr (by rw [State.setUpc_upc]; decide)
  · rw [State.setUpc_upc] at herr
    rcases afterClassify_cases s.idx with ⟨-, ha⟩ | ⟨-, ha⟩ <;> rw [ha] at herr <;> exact absurd herr (by decide)
  · exact absurd herr (by rw [State.setUpc_upc]; decide)
  · exact absurd herr (by rw [State.setUpc_upc]; decide)
  · exact .checksum hu hinvalid rfl
  · exact absurd herr (by rw [State.setUpc_upc]; decide)

/-- A step that leads to an error micro-state from another one is a turn of the core, at one of the two checks: reset
and START lead elsewhere, and the other turns leave `UPC`. -/
theorem errorEntry_of_step {s t : State} (h : step s = .next t) (herr : 29 ≤ t.upc.code.toNat) (hne : t.upc ≠ s.upc) :
    s.turn = .core ∧ ErrorEntry s.popTurn t := by
  rcases step_cases h with ⟨hturn, hexec⟩ | ⟨c, w, -, rfl⟩ | ⟨r, d, -, rfl⟩ | ⟨d, -, -, -, rfl⟩ | ⟨r, -, rfl⟩ |
    ⟨w, op, arg, -, rfl⟩
  · exact ⟨hturn, errorEntry_exec_micro (s := s.popTurn) hexec herr hne⟩
  · exact absurd herr (by rw [State.resetCore_upc]; decide)
  · exact absurd rfl hne
  · exact absurd herr (by rw [State.beginReadout_upc]; decide)
  · exact absurd rfl hne
  · exact absurd rfl hne

/-- Settles O26: of the two ways into an error micro-state each leads to its own. -/
theorem errorsComeOnlyFromTheirChecks : Obligations.ErrorsComeOnlyFromTheirChecks := by
  unfold Obligations.ErrorsComeOnlyFromTheirChecks
  refine fun s t h => ⟨fun hto hfrom => ?_, fun hto hfrom => ?_⟩
  · obtain ⟨hturn, hentry⟩ := errorEntry_of_step h (hto ▸ by decide) (hto ▸ hfrom.symm)
    cases hentry with
    | timeout hcheck hpast ht =>
      subst ht
      exact ⟨hturn, hcheck, _, issued_issue s.popTurn .now 0#32, hpast⟩
    | checksum _ _ ht =>
      subst ht
      cases hto
  · obtain ⟨hturn, hentry⟩ := errorEntry_of_step h (hto ▸ by decide) (hto ▸ hfrom.symm)
    cases hentry with
    | timeout _ _ ht =>
      subst ht
      cases hto
    | checksum hchk hinvalid _ =>
      exact ⟨hturn, hchk, mt s.frame.valid_iff.mpr (Bool.eq_false_iff.mp hinvalid)⟩

/-! ## Reset -/

/-- Withdrawing an operation adds no line to the trace and touches nothing around the core (log 8). -/
theorem withdraw_frame (s : State) (c : Bool) :
    (s.withdraw c).trace = s.trace ∧ SurroundingsSame s (s.withdraw c) := by
  rcases s.withdraw_cases c with h | ⟨op, arg, -, -, h⟩ <;> rw [h] <;> exact ⟨rfl, rfl, rfl, rfl⟩

/-- Where the operation is dropped, or none was presented, the environment makes no move (70 R251). -/
theorem withdraw_of_no_operation {s : State} {c : Bool} (h : c = false ∨ issuedBy s.params s.upc = none) :
    s.withdraw c = s := by
  rcases s.withdraw_cases c with heq | ⟨op, arg, hc, hissues, -⟩
  · exact heq
  · simp [hc, hissues] at h

/-- Where the environment completes the operation, it serves it as it always does (93 U11). -/
theorem withdraw_of_issuedBy {s : State} {op : CapOp} {arg : Word} (h : issuedBy s.params s.upc = some (op, arg)) :
    s.withdraw true = s.environment op arg := by
  simp [State.withdraw, h]

/-- Settles O8: a reset turn is `resetCore` after the withdrawal, whatever the step or the host write would have been. -/
theorem resetWinsOverEverything : Obligations.ResetWinsOverEverything := by
  unfold Obligations.ResetWinsOverEverything
  intro s c w hturn
  obtain ⟨htrace, hparams, hagenda, hdata⟩ := withdraw_frame s.popTurn c
  refine ⟨_, step_reset hturn, rfl, registersCleared_resetCore _, htrace, hagenda, hparams, hdata, fun hno => ?_,
    fun hc op arg hissues => ?_⟩
  · rw [withdraw_of_no_operation (s := s.popTurn) hno]
    exact ⟨rfl, rfl, rfl, rfl, rfl, rfl, rfl⟩
  · rw [hc, withdraw_of_issuedBy (s := s.popTurn) hissues]
    exact ⟨rfl, rfl, s.clock_le_servedClock op arg⟩

end Sys2Proof.Machine
